-- ==== Sys2Proof/Word.lean ====
section
/-! DEFINITION. The word types of the block (00_scope.md R9, 30_encoding.md R90). -/

namespace Sys2Proof

/-- 00_scope.md R9: an unsigned 8-bit value. -/
abbrev Byte := BitVec 8

/-- 00_scope.md R9, 30_encoding.md R94: a coordinate, an unsigned 9-bit value, 0 to 511. -/
abbrev Coord := BitVec 9

/-- 30_encoding.md R90: a request word, 48 bits, fixed length. -/
abbrev ReqWord := BitVec 48

end Sys2Proof
end

