-- ==== Sys2Proof/Syntax.lean ====
section
/-! DEFINITION. The instructions: the 14 requests, the illegal word and the 16 panel commands
(every row of spec/opcode_table.json), and the forms they arrive in. -/

namespace Sys2Proof

/-- 43_frame.md R170: the closed set of colours. -/
inductive Color where
  | white
  | black
  | chromatic
deriving DecidableEq, Repr, Inhabited

/-- 30_encoding.md R100: the 16 panel opcode names. -/
inductive PanelOp where
  | swReset
  | driverOutputControl
  | dataEntryMode
  | ramXWindow
  | ramYWindow
  | ramXCounter
  | ramYCounter
  | writeRam1
  | writeRam2
  | borderWaveform
  | tempSensorSource
  | tempSensorControl
  | displayUpdateControl2
  | masterActivation
  | nop
  | deepSleep
deriving DecidableEq, Repr, Inhabited

/-- The instructions. A frame request carries its plane operands (30_encoding.md R95), as CUR_REQ
does (10_state.md R25: "decoded op and operands, including the plane operand byte lists"). -/
inductive Instr where
  /-- 41_init.md R140. -/
  | init
  /-- 41_init.md R142. -/
  | wake
  /-- 44_power_config.md R200. -/
  | sleep
  /-- 43_frame.md R172. -/
  | updateFrame (a : List Byte)
  /-- 43_frame.md R173. -/
  | updateColorFrame (a c : List Byte)
  /-- 43_frame.md R174. -/
  | displayFrame
  /-- 43_frame.md R176. -/
  | updateAndDisplayFrame (a : List Byte)
  /-- 43_frame.md R178. -/
  | clearFrame
  /-- 44_power_config.md R203. -/
  | setBackground (col : Color)
  /-- 42_window.md R158. -/
  | setRamArea (sx sy ex ey : Coord)
  /-- 42_window.md R159. -/
  | setRamCounter (x y : Coord)
  /-- 42_window.md R160. -/
  | useFullFrame
  /-- 44_power_config.md R204; no operand is read. -/
  | updatePartialFrame
  /-- 44_power_config.md R205; no operand is read. -/
  | setLut
  /-- 30_encoding.md R96: a word that is no request. -/
  | illegal (w : ReqWord)
  -- 30_encoding.md R100: the command bytes the block emits on `tx`.
  | panelSwReset
  | panelDriverOutputControl
  | panelDataEntryMode
  | panelRamXWindow
  | panelRamYWindow
  | panelRamXCounter
  | panelRamYCounter
  | panelWriteRam1
  | panelWriteRam2
  | panelBorderWaveform
  | panelTempSensorSource
  | panelTempSensorControl
  | panelDisplayUpdateControl2
  | panelMasterActivation
  | panelNop
  | panelDeepSleep
deriving DecidableEq, Repr, Inhabited

/-- 10_state.md R34, interface `req`: one request word and the byte lists A and C. -/
structure Request where
  word : ReqWord
  planeA : List Byte
  planeC : List Byte
deriving DecidableEq, Repr, Inhabited

/-- What an instruction is encoded as: a request on `req`, or a command byte on `tx`. -/
inductive Wire where
  | request (r : Request)
  | command (b : Byte)
deriving DecidableEq, Repr, Inhabited

end Sys2Proof
end

