-- ==== Sys2Proof/Config.lean ====
section
/-! DEFINITION. What is fixed for a block: the Panel Descriptor (00_scope.md R6, R7), the parameters
the source leaves open (00_scope.md R8; opaque, so that no proof can see a value), and the free
values of the environment (10_state.md R33). -/

namespace Sys2Proof.Config

/-! ## Fixed parameters (R6) and derived constants (R7) -/

def width : Nat := 200
def height : Nat := 200
def defaultBg : Color := .white

/-- 90_conflicts.md C2: busy is level 1, idle is level 0. -/
def isBusyLow : Bool := false

/-- `ceil(WIDTH/8) * HEIGHT`, the required length of a plane operand. -/
def planeBytes : Nat := ((width + 7) / 8) * height

/-- `(WIDTH/8) * HEIGHT`, the normal clear fill count. -/
def clearBytes : Nat := (width / 8) * height

/-- `2 * (WIDTH/8) * HEIGHT`, the achromatic fill count when the background is Chromatic. -/
def clearBytesChromaA : Nat := 2 * (width / 8) * height

def xMax : Coord := BitVec.ofNat 9 (width - 1)
def yMax : Coord := BitVec.ofNat 9 (height - 1)

/-! ## Open parameters (R8): constants with no body

DESIGN CHOICE (log 1): the spec takes each as an argument; a constant without a body is one argument
for the whole model. Safe: a claim holds whatever the values are. -/

/-- Byte of each panel opcode; not assumed distinct (30_encoding.md R100). -/
opaque opc : PanelOp → Byte

opaque demByte : Byte
opaque bwfByte : Byte
opaque tssByte : Byte
opaque tscByte0 : Byte
opaque tscByte1 : Byte
opaque duc2Byte : Byte

/-- `CB_WHITE`. -/
opaque cbWhite : Byte

/-- How far `CB_BLACK` lies above `CB_WHITE`, less one. -/
opaque cbBlackOffset : Fin 255

/-- `CB_BLACK`: any byte but `CB_WHITE` (R8: `CB_WHITE != CB_BLACK`). DESIGN CHOICE (log 2): the
constraint is built into the form; every pair of different bytes is some choice of the two
constants. Safe. -/
def cbBlack : Byte := cbWhite + BitVec.ofNat 8 (cbBlackOffset.val + 1)

/-- The reset pulse's durations, in a unit the spec does not give (log 15). -/
opaque tRstLow : Nat
opaque tRstHigh : Nat

/-- The length of the opt-in busy timeout; no rule reads it (40_sequencer.md R123). -/
opaque timeoutLength : Nat

inductive PollMode where
  | spin
  | fixedDelay
deriving DecidableEq, Repr, Inhabited

inductive Burst where
  | singleByte
  | burst
deriving DecidableEq, Repr, Inhabited

/-- No rule reads it (R8). -/
opaque pollMode : PollMode

/-- No rule reads it (R8). -/
opaque burst : Burst

/-! ## Free values of the environment (10_state.md R33, 40_sequencer.md R123)

The n-th draw after the levels, answers and draws listed in State are used up (log 3). -/

/-- A level of the busy line at a sample; `true` is level 1. -/
opaque freeBusy : Nat → Bool

/-- Whether the collaborator answers `ok`. -/
opaque freeTxOk : Nat → Bool

/-- Whether the opt-in timeout fires at a busy sample. -/
opaque freeTimeout : Nat → Bool

end Sys2Proof.Config
end

