-- ==== Sys2Proof/WellFormed.lean ====
section
/-! DEFINITION. When an instruction is one that the encoding can spell. Operand widths are types
(coordinates are 9 bits, the colours a closed set), and a plane operand may have any length
(30_encoding.md R95), so the one check is that an illegal word is illegal. -/

namespace Sys2Proof

/-- 30_encoding.md R92 as a mask: the bits of the word that must be zero for each OP
(columns COL, A0 to A3, RSV0, RSV1). -/
def zeroMask (op : BitVec 4) : ReqWord :=
  match op.toNat with
  | 0x8 => 0xFFFFFFFFFFC0#48
  | 0x9 => 0xF000000000F0#48
  | 0xA => 0xFFFFFC0000F0#48
  | 0xC => 0#48
  | 0xD => 0#48
  | _ => 0xFFFFFFFFFFF0#48

/-- 30_encoding.md R96: the illegal words. -/
def illegalWord (w : ReqWord) : Bool :=
  let op := w.extractLsb' 0 4
  op == 0xE#4 || op == 0xF#4 || w &&& zeroMask op != 0#48
    || (op == 0x8#4 && w.extractLsb' 4 2 == 3#2)

def wellFormed : Instr → Bool
  | .illegal w => illegalWord w
  | .init => true
  | .wake => true
  | .sleep => true
  | .updateFrame _ => true
  | .updateColorFrame _ _ => true
  | .displayFrame => true
  | .updateAndDisplayFrame _ => true
  | .clearFrame => true
  | .setBackground _ => true
  | .setRamArea _ _ _ _ => true
  | .setRamCounter _ _ => true
  | .useFullFrame => true
  | .updatePartialFrame => true
  | .setLut => true
  | .panelSwReset => true
  | .panelDriverOutputControl => true
  | .panelDataEntryMode => true
  | .panelRamXWindow => true
  | .panelRamYWindow => true
  | .panelRamXCounter => true
  | .panelRamYCounter => true
  | .panelWriteRam1 => true
  | .panelWriteRam2 => true
  | .panelBorderWaveform => true
  | .panelTempSensorSource => true
  | .panelTempSensorControl => true
  | .panelDisplayUpdateControl2 => true
  | .panelMasterActivation => true
  | .panelNop => true
  | .panelDeepSleep => true

end Sys2Proof
end

