-- ==== Sys2Proof/Decode.lean ====
section
/-! DEFINITION. The decoder of request words (30_encoding.md R90 to R98) and of panel command bytes
(R100), the encoder, the opcode table's rows (R102) and the assembler (R99). -/

namespace Sys2Proof

/-! ## Fields of the request word (R90) -/

def fieldOp (w : ReqWord) : BitVec 4 := w.extractLsb' 0 4
def fieldCol (w : ReqWord) : BitVec 2 := w.extractLsb' 4 2
def fieldRsv0 (w : ReqWord) : BitVec 2 := w.extractLsb' 6 2
def fieldA0 (w : ReqWord) : Coord := w.extractLsb' 8 9
def fieldA1 (w : ReqWord) : Coord := w.extractLsb' 17 9
def fieldA2 (w : ReqWord) : Coord := w.extractLsb' 26 9
def fieldA3 (w : ReqWord) : Coord := w.extractLsb' 35 9
def fieldRsv1 (w : ReqWord) : BitVec 4 := w.extractLsb' 44 4

/-! ## Colour codes (R93) -/

def Color.code : Color → BitVec 2
  | .white => 0#2
  | .black => 1#2
  | .chromatic => 2#2

def colorOfCode (b : BitVec 2) : Option Color :=
  match b.toNat with
  | 0 => some .white
  | 1 => some .black
  | 2 => some .chromatic
  | _ => none

/-! ## The field checks (R92) -/

def reservedZero (w : ReqWord) : Bool := fieldRsv0 w == 0#2 && fieldRsv1 w == 0#4

def coordsZero (w : ReqWord) : Bool :=
  fieldA0 w == 0#9 && fieldA1 w == 0#9 && fieldA2 w == 0#9 && fieldA3 w == 0#9

/-- R92, row of the requests without operands in the word. -/
def plainFields (w : ReqWord) : Bool := fieldCol w == 0#2 && coordsZero w && reservedZero w

/-- R92, row SET_BACKGROUND (its colour is checked by `colorOfCode`). -/
def backgroundFields (w : ReqWord) : Bool := coordsZero w && reservedZero w

/-- R92, row SET_RAM_AREA. -/
def areaFields (w : ReqWord) : Bool := fieldCol w == 0#2 && reservedZero w

/-- R92, row SET_RAM_COUNTER. -/
def counterFields (w : ReqWord) : Bool :=
  fieldCol w == 0#2 && fieldA2 w == 0#9 && fieldA3 w == 0#9 && reservedZero w

/-- R96: a word whose field check fails is illegal. -/
def checkedAs (ok : Bool) (w : ReqWord) (i : Instr) : Instr := if ok then i else .illegal w

/-- R91, R98: total on every request. "The decoder reads OP first. For OP 0xC and 0xD it reads
nothing else." DEDUCED (log 18): plane lists handed over with a request that R92 gives none are not
read. -/
def decodeRequest (r : Request) : Instr :=
  match (fieldOp r.word).toNat with
  | 0x0 => checkedAs (plainFields r.word) r.word .init
  | 0x1 => checkedAs (plainFields r.word) r.word .wake
  | 0x2 => checkedAs (plainFields r.word) r.word .sleep
  | 0x3 => checkedAs (plainFields r.word) r.word (.updateFrame r.planeA)
  | 0x4 => checkedAs (plainFields r.word) r.word (.updateColorFrame r.planeA r.planeC)
  | 0x5 => checkedAs (plainFields r.word) r.word .displayFrame
  | 0x6 => checkedAs (plainFields r.word) r.word (.updateAndDisplayFrame r.planeA)
  | 0x7 => checkedAs (plainFields r.word) r.word .clearFrame
  | 0x8 =>
    match colorOfCode (fieldCol r.word) with
    | some c => checkedAs (backgroundFields r.word) r.word (.setBackground c)
    | none => .illegal r.word
  | 0x9 =>
    checkedAs (areaFields r.word) r.word
      (.setRamArea (fieldA0 r.word) (fieldA1 r.word) (fieldA2 r.word) (fieldA3 r.word))
  | 0xA =>
    checkedAs (counterFields r.word) r.word (.setRamCounter (fieldA0 r.word) (fieldA1 r.word))
  | 0xB => checkedAs (plainFields r.word) r.word .useFullFrame
  | 0xC => .updatePartialFrame
  | 0xD => .setLut
  | _ => .illegal r.word

/-! ## Panel command bytes (R100) -/

def PanelOp.all : List PanelOp :=
  [.swReset, .driverOutputControl, .dataEntryMode, .ramXWindow, .ramYWindow, .ramXCounter,
   .ramYCounter, .writeRam1, .writeRam2, .borderWaveform, .tempSensorSource, .tempSensorControl,
   .displayUpdateControl2, .masterActivation, .nop, .deepSleep]

/-- The instruction that is the command of a panel opcode name. -/
def panelInstr : PanelOp → Instr
  | .swReset => .panelSwReset
  | .driverOutputControl => .panelDriverOutputControl
  | .dataEntryMode => .panelDataEntryMode
  | .ramXWindow => .panelRamXWindow
  | .ramYWindow => .panelRamYWindow
  | .ramXCounter => .panelRamXCounter
  | .ramYCounter => .panelRamYCounter
  | .writeRam1 => .panelWriteRam1
  | .writeRam2 => .panelWriteRam2
  | .borderWaveform => .panelBorderWaveform
  | .tempSensorSource => .panelTempSensorSource
  | .tempSensorControl => .panelTempSensorControl
  | .displayUpdateControl2 => .panelDisplayUpdateControl2
  | .masterActivation => .panelMasterActivation
  | .nop => .panelNop
  | .deepSleep => .panelDeepSleep

/-- The panel opcode name an instruction is the command of, if it is one. -/
def panelOpOf : Instr → Option PanelOp
  | .panelSwReset => some .swReset
  | .panelDriverOutputControl => some .driverOutputControl
  | .panelDataEntryMode => some .dataEntryMode
  | .panelRamXWindow => some .ramXWindow
  | .panelRamYWindow => some .ramYWindow
  | .panelRamXCounter => some .ramXCounter
  | .panelRamYCounter => some .ramYCounter
  | .panelWriteRam1 => some .writeRam1
  | .panelWriteRam2 => some .writeRam2
  | .panelBorderWaveform => some .borderWaveform
  | .panelTempSensorSource => some .tempSensorSource
  | .panelTempSensorControl => some .tempSensorControl
  | .panelDisplayUpdateControl2 => some .displayUpdateControl2
  | .panelMasterActivation => some .masterActivation
  | .panelNop => some .nop
  | .panelDeepSleep => some .deepSleep
  | .init => none
  | .wake => none
  | .sleep => none
  | .updateFrame _ => none
  | .updateColorFrame _ _ => none
  | .displayFrame => none
  | .updateAndDisplayFrame _ => none
  | .clearFrame => none
  | .setBackground _ => none
  | .setRamArea _ _ _ _ => none
  | .setRamCounter _ _ => none
  | .useFullFrame => none
  | .updatePartialFrame => none
  | .setLut => none
  | .illegal _ => none

/-- DESIGN CHOICE (log 11): OPC's values are not assumed distinct (R100), so a byte stands for the
first name, in the table's order, that OPC gives it to. The block itself never decodes one. -/
def decodePanelByte (b : Byte) : Option Instr :=
  (PanelOp.all.find? fun p => Config.opc p == b).map panelInstr

/-- Why bits are no instruction at all. -/
inductive DecodeError where
  /-- A command byte that OPC gives to no panel opcode name. -/
  | unassignedCommandByte
  /-- A length that is neither a request word's (48 bits) nor a command byte's (8 bits). -/
  | noSuchFormat
  /-- A number that has bits above the format's length. -/
  | bitsBeyondFormat
deriving DecidableEq, Repr

def decode : Wire → Except DecodeError Instr
  | .request r => .ok (decodeRequest r)
  | .command b =>
    match decodePanelByte b with
    | some i => .ok i
    | none => .error .unassignedCommandByte

/-- The wire form of `nbits` bits whose value is `w`: 48 bits are a request word, 8 bits a panel
command byte (spec/opcode_table.json, formats REQ and PANEL_CMD). -/
def wireOfBits (nbits w : Nat) (planeA planeC : List Byte) : Except DecodeError Wire :=
  if nbits = 48 then
    if w < 2 ^ 48 then .ok (.request ⟨BitVec.ofNat 48 w, planeA, planeC⟩)
    else .error .bitsBeyondFormat
  else if nbits = 8 then
    if w < 2 ^ 8 then .ok (.command (BitVec.ofNat 8 w)) else .error .bitsBeyondFormat
  else .error .noSuchFormat

/-- Decoding of a number of bits, total, with every rejection named. -/
def decodeBits (nbits w : Nat) (planeA planeC : List Byte) : Except DecodeError Instr :=
  match wireOfBits nbits w planeA planeC with
  | .ok x => decode x
  | .error e => .error e

/-- The instruction read from a table row's bits. DESIGN CHOICE (log 12): the table gives plane
operands no bits, so they are the empty lists. -/
def decodeTableWord (nbits w : Nat) : Option Instr :=
  match decodeBits nbits w [] [] with
  | .ok i => some i
  | .error _ => none

/-! ## Encoding -/

/-- R99: `OP | COL<<4 | A0<<8 | A1<<17 | A2<<26 | A3<<35`. -/
def assembleWord (op : BitVec 4) (col : BitVec 2) (a0 a1 a2 a3 : Coord) : ReqWord :=
  op.setWidth 48 ||| (col.setWidth 48 <<< 4) ||| (a0.setWidth 48 <<< 8)
    ||| (a1.setWidth 48 <<< 17) ||| (a2.setWidth 48 <<< 26) ||| (a3.setWidth 48 <<< 35)

/-- A word whose only nonzero field is OP. -/
def plainWord (op : BitVec 4) : ReqWord := assembleWord op 0#2 0#9 0#9 0#9 0#9

/-- The wire form of an instruction (R91, R92, R99 for requests; R100 for panel commands). The bits
that R92 ignores are sent as zeros. -/
def encode : Instr → Wire
  | .init => .request ⟨plainWord 0x0#4, [], []⟩
  | .wake => .request ⟨plainWord 0x1#4, [], []⟩
  | .sleep => .request ⟨plainWord 0x2#4, [], []⟩
  | .updateFrame a => .request ⟨plainWord 0x3#4, a, []⟩
  | .updateColorFrame a c => .request ⟨plainWord 0x4#4, a, c⟩
  | .displayFrame => .request ⟨plainWord 0x5#4, [], []⟩
  | .updateAndDisplayFrame a => .request ⟨plainWord 0x6#4, a, []⟩
  | .clearFrame => .request ⟨plainWord 0x7#4, [], []⟩
  | .setBackground col => .request ⟨assembleWord 0x8#4 col.code 0#9 0#9 0#9 0#9, [], []⟩
  | .setRamArea sx sy ex ey => .request ⟨assembleWord 0x9#4 0#2 sx sy ex ey, [], []⟩
  | .setRamCounter x y => .request ⟨assembleWord 0xA#4 0#2 x y 0#9 0#9, [], []⟩
  | .useFullFrame => .request ⟨plainWord 0xB#4, [], []⟩
  | .updatePartialFrame => .request ⟨plainWord 0xC#4, [], []⟩
  | .setLut => .request ⟨plainWord 0xD#4, [], []⟩
  | .illegal w => .request ⟨w, [], []⟩
  | .panelSwReset => .command (Config.opc .swReset)
  | .panelDriverOutputControl => .command (Config.opc .driverOutputControl)
  | .panelDataEntryMode => .command (Config.opc .dataEntryMode)
  | .panelRamXWindow => .command (Config.opc .ramXWindow)
  | .panelRamYWindow => .command (Config.opc .ramYWindow)
  | .panelRamXCounter => .command (Config.opc .ramXCounter)
  | .panelRamYCounter => .command (Config.opc .ramYCounter)
  | .panelWriteRam1 => .command (Config.opc .writeRam1)
  | .panelWriteRam2 => .command (Config.opc .writeRam2)
  | .panelBorderWaveform => .command (Config.opc .borderWaveform)
  | .panelTempSensorSource => .command (Config.opc .tempSensorSource)
  | .panelTempSensorControl => .command (Config.opc .tempSensorControl)
  | .panelDisplayUpdateControl2 => .command (Config.opc .displayUpdateControl2)
  | .panelMasterActivation => .command (Config.opc .masterActivation)
  | .panelNop => .command (Config.opc .nop)
  | .panelDeepSleep => .command (Config.opc .deepSleep)

/-! ## The opcode table (R102) -/

/-- The mnemonic of each instruction, as spec/opcode_table.json spells it. -/
def mnemonic : Instr → String
  | .init => "INIT"
  | .wake => "WAKE"
  | .sleep => "SLEEP"
  | .updateFrame _ => "UPDATE_FRAME"
  | .updateColorFrame _ _ => "UPDATE_COLOR_FRAME"
  | .displayFrame => "DISPLAY_FRAME"
  | .updateAndDisplayFrame _ => "UPDATE_AND_DISPLAY_FRAME"
  | .clearFrame => "CLEAR_FRAME"
  | .setBackground _ => "SET_BACKGROUND"
  | .setRamArea _ _ _ _ => "SET_RAM_AREA"
  | .setRamCounter _ _ => "SET_RAM_COUNTER"
  | .useFullFrame => "USE_FULL_FRAME"
  | .updatePartialFrame => "UPDATE_PARTIAL_FRAME"
  | .setLut => "SET_LUT"
  | .illegal _ => "ILLEGAL"
  | .panelSwReset => "PANEL.SW_RESET"
  | .panelDriverOutputControl => "PANEL.DRIVER_OUTPUT_CONTROL"
  | .panelDataEntryMode => "PANEL.DATA_ENTRY_MODE"
  | .panelRamXWindow => "PANEL.RAM_X_WINDOW"
  | .panelRamYWindow => "PANEL.RAM_Y_WINDOW"
  | .panelRamXCounter => "PANEL.RAM_X_COUNTER"
  | .panelRamYCounter => "PANEL.RAM_Y_COUNTER"
  | .panelWriteRam1 => "PANEL.WRITE_RAM1"
  | .panelWriteRam2 => "PANEL.WRITE_RAM2"
  | .panelBorderWaveform => "PANEL.BORDER_WAVEFORM"
  | .panelTempSensorSource => "PANEL.TEMP_SENSOR_SOURCE"
  | .panelTempSensorControl => "PANEL.TEMP_SENSOR_CONTROL"
  | .panelDisplayUpdateControl2 => "PANEL.DISPLAY_UPDATE_CONTROL_2"
  | .panelMasterActivation => "PANEL.MASTER_ACTIVATION"
  | .panelNop => "PANEL.NOP"
  | .panelDeepSleep => "PANEL.DEEP_SLEEP"

/-- The request rows of the table, in its order: mnemonic and the value of OP, over the mask
`0x00000000000F`. -/
def requestRows : List (String × BitVec 4) :=
  [("INIT", 0x0#4), ("WAKE", 0x1#4), ("SLEEP", 0x2#4), ("UPDATE_FRAME", 0x3#4),
   ("UPDATE_COLOR_FRAME", 0x4#4), ("DISPLAY_FRAME", 0x5#4), ("UPDATE_AND_DISPLAY_FRAME", 0x6#4),
   ("CLEAR_FRAME", 0x7#4), ("SET_BACKGROUND", 0x8#4), ("SET_RAM_AREA", 0x9#4),
   ("SET_RAM_COUNTER", 0xA#4), ("USE_FULL_FRAME", 0xB#4), ("UPDATE_PARTIAL_FRAME", 0xC#4),
   ("SET_LUT", 0xD#4), ("ILLEGAL", 0xE#4), ("ILLEGAL", 0xF#4)]

/-- R102: the row whose match and mask the word fits. -/
def rowOfWord (w : ReqWord) : Option (String × BitVec 4) :=
  requestRows.find? fun row => w &&& 0xF#48 == row.2.setWidth 48

/-! ## The assembler (R99) -/

/-- An operand of a source line, after the text is cut into pieces: a number (decimal or hex), a
colour's name, or a plane's name with the byte list it stands for. -/
inductive AsmOperand where
  | number (n : Nat)
  | colour (c : Color)
  | plane (bs : List Byte)
deriving DecidableEq, Repr

/-- R99: coordinates are 0..511. -/
def asmCoord (n : Nat) : Option Coord := if n < 512 then some (BitVec.ofNat 9 n) else none

/-- R99: the request a line names; `UPDATE_PARTIAL_FRAME` and `SET_LUT` ignore what is written after
them. -/
def assemble (name : String) (ops : List AsmOperand) : Option Instr :=
  match name, ops with
  | "INIT", [] => some .init
  | "WAKE", [] => some .wake
  | "SLEEP", [] => some .sleep
  | "DISPLAY_FRAME", [] => some .displayFrame
  | "CLEAR_FRAME", [] => some .clearFrame
  | "USE_FULL_FRAME", [] => some .useFullFrame
  | "UPDATE_FRAME", [.plane a] => some (.updateFrame a)
  | "UPDATE_AND_DISPLAY_FRAME", [.plane a] => some (.updateAndDisplayFrame a)
  | "UPDATE_COLOR_FRAME", [.plane a, .plane c] => some (.updateColorFrame a c)
  | "SET_BACKGROUND", [.colour c] => some (.setBackground c)
  | "SET_RAM_AREA", [.number sx, .number sy, .number ex, .number ey] =>
    match asmCoord sx, asmCoord sy, asmCoord ex, asmCoord ey with
    | some a, some b, some c, some d => some (.setRamArea a b c d)
    | _, _, _, _ => none
  | "SET_RAM_COUNTER", [.number x, .number y] =>
    match asmCoord x, asmCoord y with
    | some a, some b => some (.setRamCounter a b)
    | _, _ => none
  | "UPDATE_PARTIAL_FRAME", _ => some .updatePartialFrame
  | "SET_LUT", _ => some .setLut
  | _, _ => none

end Sys2Proof
end

