-- ==== Sys2Proof/Machine/State.lean ====
section
/-! DEFINITION. The state of the block (10_state.md), its observation record (00_scope.md R11) and the
inputs that stand waiting for it (10_state.md R33, R34), as plain data; the reasons a step can stop;
the state right after block reset (10_state.md R38). -/

namespace Sys2Proof.Machine

/-- 10_state.md R21: the values of STATE. Codes 6 and 7 are never held. -/
inductive FsmState where
  | uninit
  | initializing
  | idle
  | busy
  | sleeping
  | fault
deriving DecidableEq, Repr, Inhabited

/-- 60_exceptions.md R227: the programming errors. -/
inductive ProgError where
  | window
  | length
  | unsupported
deriving DecidableEq, Repr, Inhabited

/-- 60_exceptions.md R222: the errors that can be raised. -/
inductive Err where
  | illegal
  | state
  | prog (e : ProgError)
  | transport
  | timeout
  | faulted
deriving DecidableEq, Repr, Inhabited

/-- 60_exceptions.md R222: the values of LAST_RSP; codes 0x9 to 0xE are never delivered. -/
inductive Rsp where
  | ok
  | err (e : Err)
  | none
deriving DecidableEq, Repr, Inhabited

/-- 40_sequencer.md R124: a transaction issued to the collaborator. -/
inductive Tx where
  | cmd (p : PanelOp)
  | data (bs : List Byte)
  | fill (b : Byte) (n : Nat)
deriving DecidableEq, Repr, Inhabited

/-- 40_sequencer.md R134: the step kinds `Rst`, `Wait`, and `Cmd`, `Data`, `Fill` (the last three
are the transactions). -/
inductive ScriptStep where
  | rst (tl th : Nat)
  | wait
  | tx (t : Tx)
deriving DecidableEq, Repr, Inhabited

/-- 00_scope.md R11: the trace events. `CMD(p)`, `DATA(bs)` and `FILL(b, n)` are `tx` of a
transaction, `TXFAIL(e)` is `txfail` of one. -/
inductive Event where
  | rst (tl th : Nat)
  | wait
  | tx (t : Tx)
  | txfail (t : Tx)
  | timeout
  | breset
deriving DecidableEq, Repr, Inhabited

/-- 40_sequencer.md R124: the collaborator's answer. -/
inductive TxOutcome where
  | ok
  | err
deriving DecidableEq, Repr, Inhabited

/-- The inputs of the step relation (10_state.md R33, R34), each a list with the next one first. They
are the model's own fields, not registers of the block. DESIGN CHOICE (log 3, 4, 5). -/
structure Env where
  /-- Requests offered on `req`. -/
  reqs : List Request
  /-- Whether `rst_n` is asserted, for each coming step; past the list's end it is not. -/
  rstIn : List Bool
  /-- The busy line at each coming sample (`true` is level 1); past the list's end a free value. -/
  busyIn : List Bool
  /-- The answer to each coming transaction; past the list's end a free value. -/
  txIn : List TxOutcome
  /-- Whether the opt-in timeout fires at each coming busy sample; past the list's end a free
  value. -/
  timeoutIn : List Bool
  /-- How many free values have been drawn. -/
  draws : Nat
deriving DecidableEq, Repr, Inhabited

/-- The whole state: the registers of 10_state.md R21 to R28, the parameter that CONFIG shows (R30),
the panel reset line (R38), the observation record (R35) and the inputs. -/
structure State where
  /-- STATE (R21). -/
  state : FsmState
  /-- BG (R23). -/
  bg : Color
  /-- SEQ_PC (R24). -/
  seqPc : Nat
  /-- CUR_REQ (R25). -/
  curReq : Instr
  /-- SCRIPT (R25). -/
  script : List ScriptStep
  /-- RET_STATE (R26). -/
  retState : FsmState
  /-- LAST_RSP (R27). -/
  lastRsp : Rsp
  /-- FAULT_CAUSE (R28); `none` is the value 0. -/
  faultCause : Option ProgError
  /-- BUSY_TIMEOUT_EN (00_scope.md R8, R30). -/
  busyTimeoutEn : Bool
  /-- Level of the panel reset line (R38); `true` is high. -/
  panelRst : Bool
  /-- TRACE (R35), oldest event first. -/
  trace : List Event
  /-- The responses delivered (R35), oldest first. -/
  responses : List Rsp
  /-- For each BRESET of TRACE, the Cmd, Data or Fill step that it cut off, if one was in progress
  (70_reset_and_hazards.md R261), oldest first. The model's own record, no register (log 16). -/
  cutOff : List (Option Tx)
  env : Env
deriving DecidableEq, Repr, Inhabited

/-- Why the model stops. -/
inductive Fault where
  /-- Raised by `step` alone, when a request executes and SEQ_PC lies beyond the end of SCRIPT.
  10_state.md R24: SEQ_PC "never moves backward or skips", so no run reaches it; the spec gives such
  a state no step. Safe (log 13). -/
  | seqPcBeyondScript
deriving DecidableEq, Repr

/-- Why an instruction is refused. -/
inductive Refusal where
  /-- Raised by `exec` alone, for an instruction that has no meaning yet; no arm uses it. Safe. -/
  | notModelled (mnemonic : String)
deriving DecidableEq, Repr

/-- No input is waiting (DESIGN CHOICE, log 3, 4, 5). -/
def Env.none : Env :=
  { reqs := [], rstIn := [], busyIn := [], txIn := [], timeoutIn := [], draws := 0 }

/-- 10_state.md R38. CUR_REQ, SCRIPT and RET_STATE, which the spec leaves undefined, are named in
log 6 (DESIGN CHOICE); BUSY_TIMEOUT_EN is the default of 00_scope.md R8 (log 8). -/
def State.reset : State :=
  { state := .uninit
    bg := .white
    seqPc := 0
    curReq := .init
    script := []
    retState := .uninit
    lastRsp := .none
    faultCause := Option.none
    busyTimeoutEn := false
    panelRst := true
    trace := []
    responses := []
    cutOff := []
    env := Env.none }

end Sys2Proof.Machine
end

