-- ==== Sys2Proof/Machine/Flags.lean ====
section
/-! DEFINITION. The codes of the registers and the status registers (10_state.md R21, R29, R30, R36;
60_exceptions.md R222), and `req.ready` (40_sequencer.md R120). -/

namespace Sys2Proof.Machine

/-- 10_state.md R21. -/
def FsmState.code : FsmState → BitVec 3
  | .uninit => 0#3
  | .initializing => 1#3
  | .idle => 2#3
  | .busy => 3#3
  | .sleeping => 4#3
  | .fault => 5#3

/-- 60_exceptions.md R222. -/
def ProgError.code : ProgError → BitVec 4
  | .window => 0x3#4
  | .length => 0x4#4
  | .unsupported => 0x5#4

/-- 60_exceptions.md R222. -/
def Rsp.code : Rsp → BitVec 4
  | .ok => 0x0#4
  | .err .illegal => 0x1#4
  | .err .state => 0x2#4
  | .err (.prog e) => e.code
  | .err .transport => 0x6#4
  | .err .timeout => 0x7#4
  | .err .faulted => 0x8#4
  | .none => 0xF#4

/-- 10_state.md R28: the code of the programming error, 0 when there is none. -/
def faultCauseCode : Option ProgError → BitVec 4
  | some e => e.code
  | none => 0x0#4

/-- Whether a request executes: STATE is INITIALIZING or BUSY. -/
def FsmState.executes : FsmState → Bool
  | .initializing => true
  | .busy => true
  | .uninit => false
  | .idle => false
  | .sleeping => false
  | .fault => false

/-- STATUS.EXEC (R29). -/
def State.execFlag (s : State) : Bool := s.state.executes

/-- STATUS.FAULTED (R29). -/
def State.faultedFlag (s : State) : Bool := s.state == .fault

/-- 40_sequencer.md R120: `req.ready`. -/
def State.reqReady (s : State) : Bool := !s.execFlag

/-- STATUS (R29), from bit 15 down to bit 0. -/
def State.status (s : State) : BitVec 16 :=
  faultCauseCode s.faultCause ++ s.lastRsp.code ++ 0#1 ++ BitVec.ofBool s.execFlag
    ++ BitVec.ofBool s.faultedFlag ++ s.bg.code ++ s.state.code

/-- GEOMETRY (R30). -/
def geometry : BitVec 32 := BitVec.ofNat 16 Config.height ++ BitVec.ofNat 16 Config.width

/-- CONFIG (R30), from bit 31 down to bit 0. -/
def State.config (s : State) : BitVec 32 :=
  0#28 ++ Config.defaultBg.code ++ BitVec.ofBool s.busyTimeoutEn ++ BitVec.ofBool Config.isBusyLow

/-- `stat_data` for a value of `stat_sel` (R29, R30, R34). A read is a function of the state: it
changes nothing (44_power_config.md R206). DESIGN CHOICE (log 21): 32 bits, STATUS zero-extended. -/
def State.statData (s : State) (sel : Nat) : BitVec 32 :=
  match sel with
  | 0 => s.status.setWidth 32
  | 1 => geometry
  | 2 => s.config
  | _ => 0#32

end Sys2Proof.Machine
end

