-- ==== Sys2Proof/Machine/Operands.lean ====
section
/-! DEFINITION. Operand forms: the payload functions and the window check of `addressing_window_calc`
(42_window.md R150 to R154, 41_init.md R141), the plane length check and the clear fill selection of
`frame_plane_multiplexer` (43_frame.md R170, R177, R179). -/

namespace Sys2Proof.Machine

/-- 00_scope.md R9: `lo8(v) = v[7:0]`. -/
def lo8 (v : Coord) : Byte := v.extractLsb' 0 8

/-- 00_scope.md R9: `hi1(v) = zext_8(v[8])`. -/
def hi1 (v : Coord) : Byte := (v.extractLsb' 8 1).setWidth 8

/-- 20_memory.md R65: the byte offset of an X coordinate, `zext_8(x >> 3)`. -/
def xByte (x : Coord) : Byte := (x >>> 3).setWidth 8

/-- 20_memory.md R63: a 9-bit value as two bytes, low byte first. -/
def le9 (v : Coord) : List Byte := [lo8 v, hi1 v]

/-- R150: `WindowOK`, unsigned comparison of the whole coordinates. -/
def windowOk (sx sy ex ey : Coord) : Bool := BitVec.ult sx ex && BitVec.ult sy ey

/-- R151: `XW(sx, ex)`. -/
def xWindow (sx ex : Coord) : List Byte := [xByte sx, xByte ex]

/-- R152: `YW(sy, ey)`. -/
def yWindow (sy ey : Coord) : List Byte := le9 sy ++ le9 ey

/-- R153: `XC(x)`. -/
def xCounter (x : Coord) : List Byte := [xByte x]

/-- R154: `YC(y)`. -/
def yCounter (y : Coord) : List Byte := le9 y

/-- 41_init.md R141: `DOC(H) = [lo8(H-1), hi1(H-1), 0x00]` (90_conflicts.md C1). -/
def driverOutputControl (h : Nat) : List Byte := le9 (BitVec.ofNat 9 (h - 1)) ++ [0x00#8]

/-- 43_frame.md R177: `PlaneCheck`. -/
def planeOk (p : List Byte) : Bool := p.length == Config.planeBytes

/-- 43_frame.md R179: the achromatic fill byte and count, with R170's `CB(White)` and `CB(Black)`;
`CB(Chromatic)` is not defined and is not read. -/
def clearFillA : Color → Byte × Nat
  | .white => (Config.cbWhite, Config.clearBytes)
  | .black => (Config.cbBlack, Config.clearBytes)
  | .chromatic => (0xFF#8, Config.clearBytesChromaA)

/-- 43_frame.md R179: the chromatic fill byte and count, the same for every background. -/
def clearFillC : Byte × Nat := (0x00#8, Config.clearBytes)

/-- 40_sequencer.md R122: whether a level of the busy line reads busy, for either polarity. -/
def readsBusy (isBusyLow level : Bool) : Bool := (isBusyLow && !level) || (!isBusyLow && level)

end Sys2Proof.Machine
end

