-- ==== Sys2Proof/Machine/Scripts.lean ====
section
/-! DEFINITION. The scripts (40_sequencer.md R130, R134): the fragments of 42_window.md R155 to R157
and the list of steps of each request (41_init.md, 42_window.md, 43_frame.md, 44_power_config.md). -/

namespace Sys2Proof.Machine

/-- `Cmd(p)`. -/
def cmd (p : PanelOp) : ScriptStep := .tx (.cmd p)

/-- `Data(bs)`. -/
def data (bs : List Byte) : ScriptStep := .tx (.data bs)

/-- `Fill(b, n)`. -/
def fill (f : Byte × Nat) : ScriptStep := .tx (.fill f.1 f.2)

/-- 00_scope.md R10: `CmdData(p, bs)` is the two steps `Cmd(p), Data(bs)`. -/
def cmdData (p : PanelOp) (bs : List Byte) : List ScriptStep := [cmd p, data bs]

/-- 42_window.md R155. -/
def areaScript (sx sy ex ey : Coord) : List ScriptStep :=
  [.wait] ++ cmdData .ramXWindow (xWindow sx ex) ++ cmdData .ramYWindow (yWindow sy ey)

/-- 42_window.md R156. -/
def counterScript (x y : Coord) : List ScriptStep :=
  [.wait] ++ cmdData .ramXCounter (xCounter x) ++ cmdData .ramYCounter (yCounter y)

/-- 42_window.md R157. -/
def fullFrameScript : List ScriptStep :=
  areaScript 0#9 0#9 Config.xMax Config.yMax ++ counterScript 0#9 0#9

/-- 41_init.md R140. -/
def initScript : List ScriptStep :=
  [.rst Config.tRstLow Config.tRstHigh, .wait, cmd .swReset, .wait]
    ++ cmdData .driverOutputControl (driverOutputControl Config.height)
    ++ cmdData .dataEntryMode [Config.demByte]
    ++ fullFrameScript
    ++ cmdData .borderWaveform [Config.bwfByte]
    ++ cmdData .tempSensorSource [Config.tssByte]
    ++ cmdData .tempSensorControl [Config.tscByte0, Config.tscByte1]
    ++ [.wait]

/-- 41_init.md R142: `Script(WAKE, BG) = Script(INIT, BG)`. -/
def wakeScript : List ScriptStep := initScript

/-- 44_power_config.md R200. -/
def sleepScript : List ScriptStep := [.wait] ++ cmdData .deepSleep [0x01#8]

/-- 43_frame.md R172. -/
def updateFrameScript (a : List Byte) : List ScriptStep :=
  [.wait] ++ fullFrameScript ++ cmdData .writeRam1 a

/-- 43_frame.md R173. -/
def updateColorFrameScript (a c : List Byte) : List ScriptStep :=
  [.wait] ++ fullFrameScript ++ cmdData .writeRam1 a ++ cmdData .writeRam2 c

/-- 43_frame.md R174: the NOP stands directly after MASTER_ACTIVATION. -/
def displayFrameScript : List ScriptStep :=
  [.wait] ++ cmdData .displayUpdateControl2 [Config.duc2Byte] ++ [cmd .masterActivation, cmd .nop]

/-- 43_frame.md R176. -/
def updateAndDisplayFrameScript (a : List Byte) : List ScriptStep :=
  updateFrameScript a ++ displayFrameScript

/-- 43_frame.md R178. -/
def clearFrameScript (bg : Color) : List ScriptStep :=
  [.wait] ++ fullFrameScript ++ [cmd .writeRam1, fill (clearFillA bg), cmd .writeRam2, fill clearFillC]

/-- 40_sequencer.md R130: `Script(r, BG)`. The instructions without a script have the empty one;
nothing loads it. -/
def scriptOf (r : Instr) (bg : Color) : List ScriptStep :=
  match r with
  | .init => initScript
  | .wake => wakeScript
  | .sleep => sleepScript
  | .updateFrame a => updateFrameScript a
  | .updateColorFrame a c => updateColorFrameScript a c
  | .displayFrame => displayFrameScript
  | .updateAndDisplayFrame a => updateAndDisplayFrameScript a
  | .clearFrame => clearFrameScript bg
  | .setRamArea sx sy ex ey => areaScript sx sy ex ey
  | .setRamCounter x y => counterScript x y
  | .useFullFrame => fullFrameScript
  | .setBackground _ => []
  | .updatePartialFrame => []
  | .setLut => []
  | .illegal _ => []
  | .panelSwReset => []
  | .panelDriverOutputControl => []
  | .panelDataEntryMode => []
  | .panelRamXWindow => []
  | .panelRamYWindow => []
  | .panelRamXCounter => []
  | .panelRamYCounter => []
  | .panelWriteRam1 => []
  | .panelWriteRam2 => []
  | .panelBorderWaveform => []
  | .panelTempSensorSource => []
  | .panelTempSensorControl => []
  | .panelDisplayUpdateControl2 => []
  | .panelMasterActivation => []
  | .panelNop => []
  | .panelDeepSleep => []

end Sys2Proof.Machine
end

