-- ==== Sys2Proof/Machine/Ops.lean ====
section
/-! DEFINITION. The named operations over the state: reading and using up the inputs, responses,
errors (the block's exceptions, 60_exceptions.md), taking a request and loading its script
(40_sequencer.md R120, R121), transactions and completion (R124 to R127), block reset
(70_reset_and_hazards.md R260, R261), and the trace as bytes (00_scope.md R11). The block has no
addressable memory (20_memory.md R61), so there is no operation over memory. -/

namespace Sys2Proof.Machine

/-- The outcome of a step of this machine. -/
abbrev Outcome := Host.Outcome State Fault Refusal

/-! ## Inputs (10_state.md R33) -/

/-- Whether `rst_n` is asserted at this step. -/
def Env.rstAsserted (e : Env) : Bool := e.rstIn.headD false

def Env.popRst (e : Env) : Env := { e with rstIn := e.rstIn.tail }

/-- The request on `req`, if one is offered. -/
def Env.offered (e : Env) : Option Request := e.reqs.head?

def Env.popReq (e : Env) : Env := { e with reqs := e.reqs.tail }

/-- The level `busy_in` at this sample. -/
def Env.busyLevel (e : Env) : Bool :=
  match e.busyIn with
  | l :: _ => l
  | [] => Config.freeBusy e.draws

def Env.popBusy (e : Env) : Env :=
  match e.busyIn with
  | _ :: rest => { e with busyIn := rest }
  | [] => { e with draws := e.draws + 1 }

/-- The collaborator's answer to this transaction: "a free draw under no law". -/
def Env.txOutcome (e : Env) : TxOutcome :=
  match e.txIn with
  | o :: _ => o
  | [] => if Config.freeTxOk e.draws then .ok else .err

def Env.popTx (e : Env) : Env :=
  match e.txIn with
  | _ :: rest => { e with txIn := rest }
  | [] => { e with draws := e.draws + 1 }

/-- Whether the opt-in timeout fires at this busy sample (40_sequencer.md R123). -/
def Env.timeoutFires (e : Env) : Bool :=
  match e.timeoutIn with
  | t :: _ => t
  | [] => Config.freeTimeout e.draws

def Env.popTimeout (e : Env) : Env :=
  match e.timeoutIn with
  | _ :: rest => { e with timeoutIn := rest }
  | [] => { e with draws := e.draws + 1 }

/-! ## Single updates of the state -/

def State.withEnv (s : State) (e : Env) : State := { s with env := e }

/-- `TRACE += [e]`. -/
def State.emit (s : State) (e : Event) : State := { s with trace := s.trace ++ [e] }

/-- `pc <- SEQ_PC + 1`. -/
def State.advance (s : State) : State := { s with seqPc := s.seqPc + 1 }

/-- `Respond(code)` (60_exceptions.md R220, R221). -/
def State.respond (s : State) (c : Rsp) : State :=
  { s with lastRsp := c, responses := s.responses ++ [c] }

/-- The host's side of `req`: a further request is offered after those that wait. -/
def State.offer (s : State) (r : Request) : State :=
  s.withEnv { s.env with reqs := s.env.reqs ++ [r] }

/-! ## Errors (60_exceptions.md R224 to R230): taking one

There is no return operation (R231): FAULT is left by block reset alone, UNINIT by INIT or WAKE. -/

/-- R227: `FAULT_CAUSE <- code; STATE <- FAULT`. -/
def State.enterFault (s : State) (e : ProgError) : State :=
  { s with faultCause := some e, state := .fault }

/-- R127, R228, R229: `STATE <- UNINIT; SEQ_PC <- 0`. -/
def State.abandon (s : State) : State := { s with state := .uninit, seqPc := 0 }

/-- `raise <Error>` (00_scope.md R10): the state an error leaves (R222, column "STATE after"; R230)
and its one response. -/
def State.raise (s : State) (e : Err) : State :=
  match e with
  | .illegal => s.respond (.err e)
  | .state => s.respond (.err e)
  | .faulted => s.respond (.err e)
  | .prog p => (s.enterFault p).respond (.err e)
  | .transport => s.abandon.respond (.err e)
  | .timeout => s.abandon.respond (.err e)

/-! ## Taking a request (40_sequencer.md R120, R121, R129; 60_exceptions.md R223) -/

/-- R129: the states in which INIT and WAKE are accepted (and, not in FAULT, SET_BACKGROUND). -/
def FsmState.acceptsInit : FsmState → Bool
  | .uninit => true
  | .idle => true
  | .sleeping => true
  | .initializing => false
  | .busy => false
  | .fault => false

/-- R129: the states in which every other request with a script is accepted. -/
def FsmState.acceptsWork (x : FsmState) : Bool := x == .idle

/-- R120 and check 1 of R223: while a request executes, a request is not taken and nothing changes
(it stays offered: DEDUCED, log 10); in FAULT it is answered ERR_FAULTED; else `k` decides. -/
def takeRequest (k : State → State) (s : State) : Outcome :=
  match s.state with
  | .initializing => .next s
  | .busy => .next s
  | .fault => .next (s.raise .faulted)
  | .uninit => .next (k s)
  | .idle => .next (k s)
  | .sleeping => .next (k s)

/-- Check 5 of R223: ERR_STATE where the state does not accept the request. -/
def ifAccepted (accepts : FsmState → Bool) (k : State → State) (s : State) : State :=
  if accepts s.state then k s else s.raise .state

/-- Check 6 of R223: a programming error where the operands do not pass. -/
def ifOperands (ok : Bool) (e : ProgError) (k : State → State) (s : State) : State :=
  if ok then k s else s.raise (.prog e)

/-- R121: the STATE in which a request executes: INITIALIZING for INIT and WAKE, BUSY for every
other. -/
def execState : Instr → FsmState
  | .init => .initializing
  | .wake => .initializing
  | .sleep => .busy
  | .updateFrame _ => .busy
  | .updateColorFrame _ _ => .busy
  | .displayFrame => .busy
  | .updateAndDisplayFrame _ => .busy
  | .clearFrame => .busy
  | .setBackground _ => .busy
  | .setRamArea _ _ _ _ => .busy
  | .setRamCounter _ _ => .busy
  | .useFullFrame => .busy
  | .updatePartialFrame => .busy
  | .setLut => .busy
  | .illegal _ => .busy
  | .panelSwReset => .busy
  | .panelDriverOutputControl => .busy
  | .panelDataEntryMode => .busy
  | .panelRamXWindow => .busy
  | .panelRamYWindow => .busy
  | .panelRamXCounter => .busy
  | .panelRamYCounter => .busy
  | .panelWriteRam1 => .busy
  | .panelWriteRam2 => .busy
  | .panelBorderWaveform => .busy
  | .panelTempSensorSource => .busy
  | .panelTempSensorControl => .busy
  | .panelDisplayUpdateControl2 => .busy
  | .panelMasterActivation => .busy
  | .panelNop => .busy
  | .panelDeepSleep => .busy

/-- R121, 10_state.md R26: the STATE a request ends in: SLEEPING for SLEEP, IDLE for every other. -/
def retStateOf : Instr → FsmState
  | .init => .idle
  | .wake => .idle
  | .sleep => .sleeping
  | .updateFrame _ => .idle
  | .updateColorFrame _ _ => .idle
  | .displayFrame => .idle
  | .updateAndDisplayFrame _ => .idle
  | .clearFrame => .idle
  | .setBackground _ => .idle
  | .setRamArea _ _ _ _ => .idle
  | .setRamCounter _ _ => .idle
  | .useFullFrame => .idle
  | .updatePartialFrame => .idle
  | .setLut => .idle
  | .illegal _ => .idle
  | .panelSwReset => .idle
  | .panelDriverOutputControl => .idle
  | .panelDataEntryMode => .idle
  | .panelRamXWindow => .idle
  | .panelRamYWindow => .idle
  | .panelRamXCounter => .idle
  | .panelRamYCounter => .idle
  | .panelWriteRam1 => .idle
  | .panelWriteRam2 => .idle
  | .panelBorderWaveform => .idle
  | .panelTempSensorSource => .idle
  | .panelTempSensorControl => .idle
  | .panelDisplayUpdateControl2 => .idle
  | .panelMasterActivation => .idle
  | .panelNop => .idle
  | .panelDeepSleep => .idle

/-- R121: script loading. -/
def loadScript (r : Instr) (s : State) : State :=
  { s with
    curReq := r
    script := scriptOf r s.bg
    seqPc := 0
    retState := retStateOf r
    state := execState r }

/-! ## Performing steps (40_sequencer.md R122 to R127) -/

/-- The step at SEQ_PC. -/
def State.currentStep (s : State) : Option ScriptStep := s.script[s.seqPc]?

/-- R124: `EmitReset`. The line ends high, its resting level (10_state.md R38, log 17). There is no
failure outcome. -/
def performRst (tl th : Nat) (s : State) : Outcome :=
  .next ({ s with panelRst := true }.emit (.rst tl th)).advance

/-- R122, R123: one sample of the busy line at a Wait. A hold is a step that uses up the sample
(DEDUCED, log 25); the timeout is drawn at a busy sample alone (log 22). -/
def performWait (s : State) : Outcome :=
  if readsBusy Config.isBusyLow s.env.busyLevel then
    if s.busyTimeoutEn then
      if s.env.popBusy.timeoutFires then
        .next (((s.withEnv s.env.popBusy.popTimeout).emit .timeout).raise .timeout)
      else .next (s.withEnv s.env.popBusy.popTimeout)
    else .next (s.withEnv s.env.popBusy)
  else .next ((s.withEnv s.env.popBusy).emit .wait).advance

/-- R124, R127: a transaction is issued, and completes or fails. -/
def performTx (t : Tx) (s : State) : Outcome :=
  match s.env.txOutcome with
  | .ok => .next ((s.withEnv s.env.popTx).emit (.tx t)).advance
  | .err => .next (((s.withEnv s.env.popTx).emit (.txfail t)).raise .transport)

/-- R126: completion. -/
def State.complete (s : State) : State :=
  { s with state := s.retState, seqPc := 0 }.respond .ok

/-- No step at SEQ_PC: completion at the script's end (R126; DEDUCED: a step of its own, log 9). -/
def finish (s : State) : Outcome :=
  if s.seqPc = s.script.length then .next s.complete else .fault .seqPcBeyondScript

/-! ## Block reset (70_reset_and_hazards.md R260, R261) -/

/-- R261: the transaction that a block reset cuts off, if SEQ_PC stands at one. -/
def State.inProgress (s : State) : Option Tx :=
  if s.state.executes then
    match s.currentStep with
    | some (.tx t) => some t
    | some .wait => none
    | some (.rst _ _) => none
    | none => none
  else none

/-- Every register to its reset value, `BRESET` into the history; no step, no response (R261, R262).
The history, the inputs and the parameter stay (10_state.md R35; log 8, 23). Each step with
`rst_n` asserted records one event (log 24). -/
def blockReset (s : State) : State :=
  { State.reset with
    busyTimeoutEn := s.busyTimeoutEn
    trace := s.trace ++ [.breset]
    responses := s.responses
    cutOff := s.cutOff ++ [s.inProgress]
    env := s.env }

/-! ## The trace as the tagged bytes the panel sees (00_scope.md R11, second reading) -/

inductive WireByte where
  | c (b : Byte)
  | d (b : Byte)
deriving DecidableEq, Repr

def Tx.wire : Tx → List WireByte
  | .cmd p => [.c (Config.opc p)]
  | .data bs => bs.map .d
  | .fill b n => List.replicate n (.d b)

/-- The bytes that an event of the trace stands for (R11: BRESET stands for none); `k` of a failed transaction's bytes reached the panel. -/
def Event.wire (k : Nat) : Event → List WireByte
  | .tx t => t.wire
  | .txfail t => t.wire.take k
  | .rst _ _ => []
  | .wait => []
  | .timeout => []
  | .breset => []

/-- R11, 20_memory.md R67: `bs` is one of the flattenings of a trace, each failed transaction having
reached the panel up to any prefix (log 16). -/
def flattensTo : List Event → List WireByte → Prop
  | [], bs => bs = []
  | e :: es, bs => ∃ k rest, bs = e.wire k ++ rest ∧ flattensTo es rest

/-- 70_reset_and_hazards.md R261: what a block reset cut off reached the panel up to any prefix, as for
a transport failure (20_memory.md R67, 93_implementation_defined.md U22). -/
def cutWire (k : Nat) : Option Tx → List WireByte
  | some t => t.wire.take k
  | none => []

/-- R67, R261: `bs` is one of the byte lists that can have reached the panel, for a history and its
cut-off steps given newest first. DESIGN CHOICE (log 28): each transaction answered ok counts as
delivered whole, and all in issue order, which 20_memory.md R71 calls an assumed property of the
collaborator and 40_sequencer.md R132 does not let the end of a run say. Unsafe. -/
def receivedFrom : List Event → List (Option Tx) → List WireByte → Prop
  | [], _, bs => bs = []
  | .breset :: es, c :: cs, bs => ∃ k before, bs = before ++ cutWire k c ∧ receivedFrom es cs before
  | e :: es, cs, bs => ∃ k before, bs = before ++ e.wire k ∧ receivedFrom es cs before

/-- R67, R261, of a state: the trace's bytes (R11) and, at each BRESET, a prefix of the step that it
cut off, with delivery as log 28 says. -/
def State.panelReceived (s : State) (bs : List WireByte) : Prop :=
  receivedFrom s.trace.reverse s.cutOff.reverse bs

end Sys2Proof.Machine
end

