-- ==== Sys2Proof/Machine/Frame.lean ====
section
/-! DEFINITION. The plane writes, the refresh and the clear (43_frame.md). -/

namespace Sys2Proof.Machine

/-- R172: the length check stands before every step. -/
def execUpdateFrame (a : List Byte) (s : State) : Outcome :=
  takeRequest
    (ifAccepted FsmState.acceptsWork
      (ifOperands (planeOk a) .length (loadScript (.updateFrame a)))) s

/-- R173: both length checks stand before every step. -/
def execUpdateColorFrame (a c : List Byte) (s : State) : Outcome :=
  takeRequest
    (ifAccepted FsmState.acceptsWork
      (ifOperands (planeOk a && planeOk c) .length (loadScript (.updateColorFrame a c)))) s

/-- R174. -/
def execDisplayFrame (s : State) : Outcome :=
  takeRequest (ifAccepted FsmState.acceptsWork (loadScript .displayFrame)) s

/-- R176. -/
def execUpdateAndDisplayFrame (a : List Byte) (s : State) : Outcome :=
  takeRequest
    (ifAccepted FsmState.acceptsWork
      (ifOperands (planeOk a) .length (loadScript (.updateAndDisplayFrame a)))) s

/-- R178: BG is read here, once. -/
def execClearFrame (s : State) : Outcome :=
  takeRequest (ifAccepted FsmState.acceptsWork (loadScript .clearFrame)) s

end Sys2Proof.Machine
end

