-- ==== Sys2Proof/Machine/Init.lean ====
section
/-! DEFINITION. INIT and WAKE (41_init.md). -/

namespace Sys2Proof.Machine

/-- R140: accepted in UNINIT, IDLE and SLEEPING. -/
def execInit (s : State) : Outcome :=
  takeRequest (ifAccepted FsmState.acceptsInit (loadScript .init)) s

/-- R142: as INIT, with the same script. -/
def execWake (s : State) : Outcome :=
  takeRequest (ifAccepted FsmState.acceptsInit (loadScript .wake)) s

end Sys2Proof.Machine
end

