-- ==== Sys2Proof/Machine/PanelCmd.lean ====
section
/-! DEFINITION. The 16 panel commands (30_encoding.md R100): each is the step `Cmd(p)` of
40_sequencer.md R124, the command byte OPC(p) given to the collaborator. A panel command is no host
request; `step` runs one where SCRIPT holds it at SEQ_PC (log 11). -/

namespace Sys2Proof.Machine

def execPanelSwReset (s : State) : Outcome := performTx (.cmd .swReset) s

def execPanelDriverOutputControl (s : State) : Outcome := performTx (.cmd .driverOutputControl) s

def execPanelDataEntryMode (s : State) : Outcome := performTx (.cmd .dataEntryMode) s

def execPanelRamXWindow (s : State) : Outcome := performTx (.cmd .ramXWindow) s

def execPanelRamYWindow (s : State) : Outcome := performTx (.cmd .ramYWindow) s

def execPanelRamXCounter (s : State) : Outcome := performTx (.cmd .ramXCounter) s

def execPanelRamYCounter (s : State) : Outcome := performTx (.cmd .ramYCounter) s

def execPanelWriteRam1 (s : State) : Outcome := performTx (.cmd .writeRam1) s

def execPanelWriteRam2 (s : State) : Outcome := performTx (.cmd .writeRam2) s

def execPanelBorderWaveform (s : State) : Outcome := performTx (.cmd .borderWaveform) s

def execPanelTempSensorSource (s : State) : Outcome := performTx (.cmd .tempSensorSource) s

def execPanelTempSensorControl (s : State) : Outcome := performTx (.cmd .tempSensorControl) s

def execPanelDisplayUpdateControl2 (s : State) : Outcome := performTx (.cmd .displayUpdateControl2) s

def execPanelMasterActivation (s : State) : Outcome := performTx (.cmd .masterActivation) s

def execPanelNop (s : State) : Outcome := performTx (.cmd .nop) s

def execPanelDeepSleep (s : State) : Outcome := performTx (.cmd .deepSleep) s

end Sys2Proof.Machine
end

