-- ==== Sys2Proof/Machine/Power.lean ====
section
/-! DEFINITION. SLEEP, SET_BACKGROUND, the unsupported requests (44_power_config.md) and the illegal
word (30_encoding.md R96). -/

namespace Sys2Proof.Machine

/-- R200: accepted in IDLE only. -/
def execSleep (s : State) : Outcome :=
  takeRequest (ifAccepted FsmState.acceptsWork (loadScript .sleep)) s

/-- R203: `BG <- COL; Respond(OK)`, at once, in UNINIT, IDLE and SLEEPING. -/
def execSetBackground (col : Color) (s : State) : Outcome :=
  takeRequest (ifAccepted FsmState.acceptsInit fun s => { s with bg := col }.respond .ok) s

/-- R204: fails before any state check (check 3 of 60_exceptions.md R223). -/
def execUpdatePartialFrame (s : State) : Outcome :=
  takeRequest (fun s => s.raise (.prog .unsupported)) s

/-- R205: on the same terms as UPDATE_PARTIAL_FRAME. -/
def execSetLut (s : State) : Outcome :=
  takeRequest (fun s => s.raise (.prog .unsupported)) s

/-- 30_encoding.md R96, 60_exceptions.md R224: answered ERR_ILLEGAL, whatever the word is. -/
def execIllegal (_w : ReqWord) (s : State) : Outcome :=
  takeRequest (fun s => s.raise .illegal) s

end Sys2Proof.Machine
end

