-- ==== Sys2Proof/Machine/Window.lean ====
section
/-! DEFINITION. SET_RAM_AREA, SET_RAM_COUNTER and USE_FULL_FRAME (42_window.md). -/

namespace Sys2Proof.Machine

/-- R158: the window check stands before every step. -/
def execSetRamArea (sx sy ex ey : Coord) (s : State) : Outcome :=
  takeRequest
    (ifAccepted FsmState.acceptsWork
      (ifOperands (windowOk sx sy ex ey) .window (loadScript (.setRamArea sx sy ex ey)))) s

/-- R159: no operand check. -/
def execSetRamCounter (x y : Coord) (s : State) : Outcome :=
  takeRequest (ifAccepted FsmState.acceptsWork (loadScript (.setRamCounter x y))) s

/-- R160. -/
def execUseFullFrame (s : State) : Outcome :=
  takeRequest (ifAccepted FsmState.acceptsWork (loadScript .useFullFrame)) s

end Sys2Proof.Machine
end

