-- ==== Sys2Proof/Machine/Dispatch.lean ====
section
/-! DEFINITION. One arm per instruction, each the call of its meaning. -/

namespace Sys2Proof.Machine

def exec (i : Instr) (s : State) : Host.Outcome State Fault Refusal :=
  match i with
  | .init => Sys2Proof.Machine.execInit s
  | .wake => Sys2Proof.Machine.execWake s
  | .sleep => Sys2Proof.Machine.execSleep s
  | .updateFrame a => Sys2Proof.Machine.execUpdateFrame a s
  | .updateColorFrame a c => Sys2Proof.Machine.execUpdateColorFrame a c s
  | .displayFrame => Sys2Proof.Machine.execDisplayFrame s
  | .updateAndDisplayFrame a => Sys2Proof.Machine.execUpdateAndDisplayFrame a s
  | .clearFrame => Sys2Proof.Machine.execClearFrame s
  | .setBackground col => Sys2Proof.Machine.execSetBackground col s
  | .setRamArea sx sy ex ey => Sys2Proof.Machine.execSetRamArea sx sy ex ey s
  | .setRamCounter x y => Sys2Proof.Machine.execSetRamCounter x y s
  | .useFullFrame => Sys2Proof.Machine.execUseFullFrame s
  | .updatePartialFrame => Sys2Proof.Machine.execUpdatePartialFrame s
  | .setLut => Sys2Proof.Machine.execSetLut s
  | .illegal w => Sys2Proof.Machine.execIllegal w s
  | .panelSwReset => Sys2Proof.Machine.execPanelSwReset s
  | .panelDriverOutputControl => Sys2Proof.Machine.execPanelDriverOutputControl s
  | .panelDataEntryMode => Sys2Proof.Machine.execPanelDataEntryMode s
  | .panelRamXWindow => Sys2Proof.Machine.execPanelRamXWindow s
  | .panelRamYWindow => Sys2Proof.Machine.execPanelRamYWindow s
  | .panelRamXCounter => Sys2Proof.Machine.execPanelRamXCounter s
  | .panelRamYCounter => Sys2Proof.Machine.execPanelRamYCounter s
  | .panelWriteRam1 => Sys2Proof.Machine.execPanelWriteRam1 s
  | .panelWriteRam2 => Sys2Proof.Machine.execPanelWriteRam2 s
  | .panelBorderWaveform => Sys2Proof.Machine.execPanelBorderWaveform s
  | .panelTempSensorSource => Sys2Proof.Machine.execPanelTempSensorSource s
  | .panelTempSensorControl => Sys2Proof.Machine.execPanelTempSensorControl s
  | .panelDisplayUpdateControl2 => Sys2Proof.Machine.execPanelDisplayUpdateControl2 s
  | .panelMasterActivation => Sys2Proof.Machine.execPanelMasterActivation s
  | .panelNop => Sys2Proof.Machine.execPanelNop s
  | .panelDeepSleep => Sys2Proof.Machine.execPanelDeepSleep s

end Sys2Proof.Machine
end

