-- ==== Sys2Proof/Machine/Step.lean ====
section
/-! DEFINITION. One step of the block: block reset, the taking of an offered request, or the step of
the script at SEQ_PC; and how a word is placed so that the next step runs it. -/

namespace Sys2Proof.Machine

/-- 40_sequencer.md R120: with `req.ready`, the offered request is taken, decoded and run. With none
offered nothing happens (DESIGN CHOICE, log 5). -/
def takeOffered (s : State) : Outcome :=
  match s.env.offered with
  | some r => exec (decodeRequest r) (s.withEnv s.env.popReq)
  | none => .next s

/-- 40_sequencer.md R122 to R126: the step at SEQ_PC, a command as the instruction it is. -/
def performCurrent (s : State) : Outcome :=
  match s.currentStep with
  | some (.rst tl th) => performRst tl th s
  | some .wait => performWait s
  | some (.tx (.cmd p)) => exec (panelInstr p) s
  | some (.tx (.data bs)) => performTx (.data bs) s
  | some (.tx (.fill b n)) => performTx (.fill b n) s
  | none => finish s

/-- What the block does when `rst_n` is not asserted. -/
def stepBlock (s : State) : Outcome :=
  if s.state.executes then performCurrent s else takeOffered s

/-- One step. `rst_n` may be asserted at any step (70_reset_and_hazards.md R260) and then cuts off
whatever the block would have done (R261). -/
def step (s : State) : Host.Outcome State Fault Refusal :=
  if s.env.rstAsserted then .next (blockReset (s.withEnv s.env.popRst))
  else stepBlock (s.withEnv s.env.popRst)

/-- A request is placed at the head of `req`, with `rst_n` deasserted, and with the block ready. -/
def State.placeRequest (s : State) (r : Request) : State :=
  { s with
    state := if s.state.executes then .idle else s.state
    seqPc := if s.state.executes then 0 else s.seqPc
    env := { s.env with reqs := r :: s.env.reqs, rstIn := [] } }

/-- A panel command is placed as the one step of an executing script, with `rst_n` deasserted. -/
def State.placeCommand (s : State) (p : PanelOp) : State :=
  { s with
    state := .busy
    script := [cmd p]
    seqPc := 0
    env := { s.env with rstIn := [] } }

/-- `s` with the instruction of `nbits` bits `w` where the next step finds it: a request word stands
offered on `req` with empty plane operands, a panel command byte stands in SCRIPT at SEQ_PC under the
name the decoder gives it (log 11, 12). Bits that are no instruction change nothing. -/
def State.withFetchWord (s : State) (nbits w : Nat) : State :=
  match wireOfBits nbits w [] [] with
  | .ok (.request r) => s.placeRequest r
  | .ok (.command b) =>
    match (decodePanelByte b).bind panelOpOf with
    | some p => s.placeCommand p
    | none => s
  | .error _ => s

end Sys2Proof.Machine
end

