-- ==== Sys2Proof/Safety.lean ====
section
/-! DEFINITION. The terms that claims about runs use: the register invariant, the master-activation
rule of traces, what a script's steps record, and quiet inputs. -/

namespace Sys2Proof.Machine

/-- 40_sequencer.md R130: the requests that have a script. -/
def hasScript : Instr → Bool
  | .init => true
  | .wake => true
  | .sleep => true
  | .updateFrame _ => true
  | .updateColorFrame _ _ => true
  | .displayFrame => true
  | .updateAndDisplayFrame _ => true
  | .clearFrame => true
  | .setBackground _ => false
  | .setRamArea _ _ _ _ => true
  | .setRamCounter _ _ => true
  | .useFullFrame => true
  | .updatePartialFrame => false
  | .setLut => false
  | .illegal _ => false
  | .panelSwReset => false
  | .panelDriverOutputControl => false
  | .panelDataEntryMode => false
  | .panelRamXWindow => false
  | .panelRamYWindow => false
  | .panelRamXCounter => false
  | .panelRamYCounter => false
  | .panelWriteRam1 => false
  | .panelWriteRam2 => false
  | .panelBorderWaveform => false
  | .panelTempSensorSource => false
  | .panelTempSensorControl => false
  | .panelDisplayUpdateControl2 => false
  | .panelMasterActivation => false
  | .panelNop => false
  | .panelDeepSleep => false

/-- An instruction that arrives on `req` (30_encoding.md R91, R98): not a panel command. -/
def isRequest (i : Instr) : Bool := (panelOpOf i).isNone

/-- 60_exceptions.md R223, check 6. -/
def operandsPass : Instr → Bool
  | .init => true
  | .wake => true
  | .sleep => true
  | .updateFrame a => planeOk a
  | .updateColorFrame a c => planeOk a && planeOk c
  | .displayFrame => true
  | .updateAndDisplayFrame a => planeOk a
  | .clearFrame => true
  | .setBackground _ => true
  | .setRamArea sx sy ex ey => windowOk sx sy ex ey
  | .setRamCounter _ _ => true
  | .useFullFrame => true
  | .updatePartialFrame => true
  | .setLut => true
  | .illegal _ => true
  | .panelSwReset => true
  | .panelDriverOutputControl => true
  | .panelDataEntryMode => true
  | .panelRamXWindow => true
  | .panelRamYWindow => true
  | .panelRamXCounter => true
  | .panelRamYCounter => true
  | .panelWriteRam1 => true
  | .panelWriteRam2 => true
  | .panelBorderWaveform => true
  | .panelTempSensorSource => true
  | .panelTempSensorControl => true
  | .panelDisplayUpdateControl2 => true
  | .panelMasterActivation => true
  | .panelNop => true
  | .panelDeepSleep => true

/-- 40_sequencer.md R129: whether the request executes in a state: INIT and WAKE (those that execute in
INITIALIZING) in UNINIT, IDLE and SLEEPING, every other request with a script in IDLE. -/
def acceptedIn (i : Instr) (x : FsmState) : Bool :=
  hasScript i && (if execState i = .initializing then x.acceptsInit else x.acceptsWork)

/-- What holds of the registers between any two steps (10_state.md R24 to R28, 40_sequencer.md
R121). -/
structure State.Inv (s : State) : Prop where
  /-- R28: FAULT_CAUSE is 0 exactly when STATE is not FAULT. -/
  cause : s.faultCause.isSome = (s.state == .fault)
  /-- R24: with no request executing, SEQ_PC is 0. -/
  restPc : s.state.executes = false → s.seqPc = 0
  /-- R24: SEQ_PC never passes the script's end. -/
  pcInScript : s.state.executes = true → s.seqPc ≤ s.script.length
  /-- R121: SCRIPT is the script of CUR_REQ under BG, the whole time. -/
  scriptOfReq : s.state.executes = true → s.script = scriptOf s.curReq s.bg
  /-- R121: only a request with a script, whose operands passed, executes. -/
  reqPassed : s.state.executes = true → hasScript s.curReq = true ∧ operandsPass s.curReq = true
  /-- R121: INITIALIZING for INIT and WAKE, BUSY for every other. -/
  stateOfReq : s.state.executes = true → s.state = execState s.curReq
  /-- R26: RET_STATE is SLEEPING for SLEEP and IDLE for every other. -/
  retOfReq : s.state.executes = true → s.retState = retStateOf s.curReq
  /-- R27: LAST_RSP is NONE or the last response delivered. -/
  lastOfRsps : s.lastRsp = .none ∨ s.responses.getLast? = some s.lastRsp

/-- The command that starts a redraw. -/
def isActivation (e : Event) : Bool := e == .tx (.cmd .masterActivation)

/-- 43_frame.md R175: what may stand directly after it, the block reset of R261 included. -/
def endsActivation (e : Event) : Bool :=
  e == .tx (.cmd .nop) || e == .txfail (.cmd .nop) || e == .breset

/-- 43_frame.md R175 of a trace: each master activation but one at its very end is followed
directly by what may follow it. -/
def activationsFollowed : List Event → Bool
  | e :: e' :: es => (!isActivation e || endsActivation e') && activationsFollowed (e' :: es)
  | _ => true

/-- 43_frame.md R175 of a state: so far the rule holds, and where a master activation is the last
event, the step at SEQ_PC is Cmd(NOP). -/
structure State.ActivationInv (s : State) : Prop where
  followed : activationsFollowed s.trace = true
  pending : ∀ e, s.trace.getLast? = some e → isActivation e = true →
    s.state.executes = true ∧ s.currentStep = some (cmd .nop)

/-- The event of a completed step (00_scope.md R11). -/
def ScriptStep.event : ScriptStep → Event
  | .rst tl th => .rst tl th
  | .wait => .wait
  | .tx t => .tx t

def ScriptStep.isWait : ScriptStep → Bool
  | .wait => true
  | _ => false

def ScriptStep.isTx : ScriptStep → Bool
  | .tx _ => true
  | _ => false

def waitCount (l : List ScriptStep) : Nat := l.countP ScriptStep.isWait

def txCount (l : List ScriptStep) : Nat := l.countP ScriptStep.isTx

/-- `rst_n` is not asserted at any of the steps that the inputs list. -/
def Env.noReset (e : Env) : Prop := ∀ b ∈ e.rstIn, b = false

/-- The panel reads idle at the next `w` samples and the collaborator answers `ok` to the next `n`
transactions; `bs` and `ts` are the inputs after those. -/
def Env.calm (e : Env) (w n : Nat) (bs : List Bool) (ts : List TxOutcome) : Prop :=
  e.noReset ∧ e.busyIn = List.replicate w false ++ bs ∧ e.txIn = List.replicate n .ok ++ ts

/-- What a held sample leaves of the inputs (40_sequencer.md R122, R123): the sample is used up, and
with the opt-in timeout its draw. -/
def Env.heldSample (timed : Bool) (e : Env) : Env :=
  if timed then e.popBusy.popTimeout else e.popBusy

/-- The inputs after `n` held samples. -/
def Env.heldSamples (timed : Bool) : Nat → Env → Env
  | 0, e => e
  | n + 1, e => Env.heldSamples timed n (e.heldSample timed)

/-- If the block keeps sampling, some sample reads idle. -/
def Env.idleComes (timed : Bool) (e : Env) : Prop := ∃ n, (e.heldSamples timed n).busyLevel = false

/-- 40_sequencer.md R125, panel fairness: at every Wait that the run from `s` comes to, if the block
keeps sampling, some sample eventually reads idle. A premise of claims, never built into a step; that it is
said of the inputs is DEDUCED (log 27). -/
def State.panelFair (s : State) : Prop :=
  ∀ (k : Nat) (t : State), Host.Core.run Sys2Proof.core k s = .next t → t.state.executes = true →
    t.currentStep = some .wait → t.env.idleComes t.busyTimeoutEn

/-- 40_sequencer.md R132: the end of a run. DESIGN CHOICE (log 26), where R132 speaks of taken words
alone: a run is not over while the block is ready and a word stands offered; and a run whose taken
word was cut off by `rst_n`, which gets no response (R220, R261), is over. -/
def State.runOver (s : State) : Bool := !s.state.executes && s.env.offered.isNone

end Sys2Proof.Machine
end

