-- ==== Sys2Proof/Certificates/Slice0/Obligations.lean ====
section
/-! DEFINITION. The statements about the block, from the rules of spec/. -/

open Sys2Proof Sys2Proof.Machine

/-! ## Encoding -/

/-- 30_encoding.md R90 to R98 on words that 95_test_vectors.md (V-ENC, V-WIN) spells out. -/
def Obligations.SpecWordsDecode : Prop :=
  decodeTableWord 48 0x000000000000 = some .init ∧
  decodeTableWord 48 0x000000000001 = some .wake ∧
  decodeTableWord 48 0x000000000002 = some .sleep ∧
  decodeTableWord 48 0x000000000005 = some .displayFrame ∧
  decodeTableWord 48 0x000000000028 = some (.setBackground .chromatic) ∧
  decodeTableWord 48 0x063B1C000009 = some (.setRamArea 0 0 199 199) ∧
  decodeTableWord 48 0x08031DFE0009 = some (.setRamArea 0 255 199 256) ∧
  decodeTableWord 48 0x000002020F0A = some (.setRamCounter 15 257) ∧
  decodeTableWord 48 0xF028140A05FD = some .setLut ∧
  decodeTableWord 48 0x000000000038 = some (.illegal 0x38#48) ∧
  decodeTableWord 48 0x100000000000 = some (.illegal 0x100000000000#48)

/-- 30_encoding.md R99 (the assembled word), R91 to R94 (its reading): decoding the encoding of a
well-formed request gives the request, with every operand at every value. -/
def Obligations.DecodeOfEncodeIsTheRequest : Prop :=
  ∀ i : Instr, isRequest i = true → wellFormed i = true → decode (encode i) = .ok i

/-- 30_encoding.md R100: OPC's values are not assumed distinct, so the byte of a panel command
decodes to a panel command that OPC gives the same byte to (the choice among equals is the model's,
log 11). -/
def Obligations.PanelByteDecodesUpToOpc : Prop :=
  ∀ p : PanelOp, ∃ q : PanelOp,
    decode (encode (panelInstr p)) = .ok (panelInstr q) ∧ Config.opc q = Config.opc p

/-- 30_encoding.md R90, R92: no bit of a request word is dropped. A word whose OP is not one of the
unsupported two is the encoding of what it decodes to. -/
def Obligations.EncodeOfDecodeIsTheWord : Prop :=
  ∀ r : Request, r.word.extractLsb' 0 4 ≠ 0xC#4 → r.word.extractLsb' 0 4 ≠ 0xD#4 →
    ∃ a c, encode (decodeRequest r) = .request ⟨r.word, a, c⟩

/-- 30_encoding.md R96, its whole list of illegal words read field by field, and what such a word
does: where requests are taken and STATE is not FAULT, ERR_ILLEGAL, with no register changed but
LAST_RSP and no step. -/
def Obligations.IllegalWordsAreThoseOfTheList : Prop :=
  ∀ r : Request,
    (decodeRequest r = .illegal r.word ↔
      let w := r.word
      let op := w.extractLsb' 0 4
      let col := w.extractLsb' 4 2
      let rsv := w.extractLsb' 6 2 ≠ 0#2 ∨ w.extractLsb' 44 4 ≠ 0#4
      let a01 := w.extractLsb' 8 9 ≠ 0#9 ∨ w.extractLsb' 17 9 ≠ 0#9
      let a23 := w.extractLsb' 26 9 ≠ 0#9 ∨ w.extractLsb' 35 9 ≠ 0#9
      op = 0xE#4 ∨ op = 0xF#4 ∨
      (op ≠ 0xC#4 ∧ op ≠ 0xD#4 ∧ rsv) ∨
      (op = 0x8#4 ∧ (col = 3#2 ∨ a01 ∨ a23)) ∨
      (op = 0x9#4 ∧ col ≠ 0#2) ∨
      (op = 0xA#4 ∧ (col ≠ 0#2 ∨ a23)) ∨
      (op ≠ 0x8#4 ∧ op ≠ 0x9#4 ∧ op ≠ 0xA#4 ∧ op ≠ 0xC#4 ∧ op ≠ 0xD#4 ∧
        (col ≠ 0#2 ∨ a01 ∨ a23))) ∧
    (decodeRequest r = .illegal r.word → ∀ s : State, s.reqReady = true → s.state ≠ .fault →
      exec (decodeRequest r) s =
        .next { s with
          lastRsp := .err .illegal
          responses := s.responses ++ [.err .illegal] })

/-- 30_encoding.md R98: every request decodes to one of the 14 requests or is illegal, and
nothing else. -/
def Obligations.EveryWordIsARequestOrIllegal : Prop :=
  ∀ r : Request, isRequest (decodeRequest r) = true ∧
    wellFormed (decodeRequest r) = true ∧
    ((∃ w, decodeRequest r = .illegal w) ↔ illegalWord r.word = true)

/-- 30_encoding.md R102: the row of the opcode table that a word fits names what it decodes to,
unless a field check makes it illegal. -/
def Obligations.TableRowNamesTheRequest : Prop :=
  ∀ r : Request, ∃ row, rowOfWord r.word = some row ∧
    (mnemonic (decodeRequest r) = row.1 ∨ decodeRequest r = .illegal r.word)

/-! ## The step -/

/-- 40_sequencer.md R120, R122 to R124: with `rst_n` deasserted, a ready block runs the instruction
that the offered request decodes to, the request taken off `req`; an executing block runs the command
at SEQ_PC as the panel instruction it is. That offers stand in a queue and that each step uses up an
entry of the reset list is the model's choice (log 5, 4), and so is that a panel command is an
instruction which `step` runs (log 11). -/
def Obligations.StepRunsTheDecodedInstruction : Prop :=
  (∀ (s : State) (r : Request) (rest : List Request),
    s.env.rstAsserted = false → s.reqReady = true → s.env.reqs = r :: rest →
    step s = exec (decodeRequest r)
      { s with env := { s.env with rstIn := s.env.rstIn.tail, reqs := rest } }) ∧
  (∀ (s : State) (p : PanelOp),
    s.env.rstAsserted = false → s.state.executes = true →
    s.script[s.seqPc]? = some (.tx (.cmd p)) →
    step s = exec (panelInstr p) { s with env := { s.env with rstIn := s.env.rstIn.tail } })

/-- 40_sequencer.md R120: while a request executes, the requests offered stay offered, in order;
with block reset too (DEDUCED, log 23). -/
def Obligations.OffersStayWhileExecuting : Prop :=
  ∀ s t : State, s.state.executes = true → step s = .next t → t.env.reqs = s.env.reqs

/-- 40_sequencer.md R131, R128, 70_reset_and_hazards.md R260 to R262: what a step emits that performs no
step of a script. Without `rst_n`, a block that executes nothing emits nothing: no step of a request
that is done, no retry, no automatic INIT; and with nothing offered only the reset list moves (the
model's, log 5, 4). With `rst_n`, from any state, the step emits one BRESET (one for each such step:
the model's choice, log 24) and no step of a script, and of a transaction that it cuts off any prefix
may have reached the panel (R261, 20_memory.md R67; the record of it is the model's, log 16; that what was answered ok
is delivered whole and in issue order is the model's choice, log 28). -/
def Obligations.NoStepOfItsOwn : Prop :=
  (∀ s t : State, s.env.rstAsserted = false → s.state.executes = false → step s = .next t →
    t.trace = s.trace) ∧
  (∀ s : State, s.env.rstAsserted = false → s.state.executes = false → s.env.reqs = [] →
    step s = .next { s with env := s.env.popRst }) ∧
  (∀ s t : State, s.env.rstAsserted = true → step s = .next t →
    t.trace = s.trace ++ [.breset] ∧
    (∀ bs, s.panelReceived bs → t.panelReceived bs) ∧
    (∀ (x : Tx) (k : Nat) (bs : List WireByte), s.state.executes = true →
      s.script[s.seqPc]? = some (.tx x) → s.panelReceived bs →
      t.panelReceived (bs ++ x.wire.take k)))

/-! ## Reset -/

/-- 10_state.md R38, the values the spec gives (those of CUR_REQ, SCRIPT and RET_STATE are the
model's, log 6, and are not stated). That select 0 reads STATUS zero-extended to 32 bits is the model's
choice (log 21). -/
def Obligations.ResetValues : Prop :=
  State.reset.state = .uninit ∧ State.reset.bg = .white ∧ State.reset.lastRsp = .none ∧
  State.reset.faultCause = none ∧ State.reset.seqPc = 0 ∧ State.reset.panelRst = true ∧
  State.reset.reqReady = true ∧ State.reset.statData 0 = 0x0F00#32 ∧
  State.reset.statData 1 = 0x00C800C8#32 ∧ State.reset.statData 2 = 0#32

/-- 70_reset_and_hazards.md R260, R261 (92_eei_decisions.md D13): block reset at any step, from any
state: the reset values, BRESET, no response; and nothing but block reset leaves FAULT. That each step
with `rst_n` asserted appends one BRESET is the model's choice (log 24), and that the parameter stays is
the model's too (log 8). -/
def Obligations.BlockResetIsTheOnlyWayOutOfFault : Prop :=
  (∀ s : State, s.env.rstAsserted = true → ∃ t, step s = .next t ∧
    t.state = .uninit ∧ t.bg = .white ∧ t.lastRsp = .none ∧ t.faultCause = none ∧ t.seqPc = 0 ∧
    t.panelRst = true ∧ t.trace = s.trace ++ [.breset] ∧ t.responses = s.responses ∧
    t.busyTimeoutEn = s.busyTimeoutEn) ∧
  (∀ s t : State, s.env.rstAsserted = false → s.state = .fault → step s = .next t →
    t.state = .fault ∧ t.faultCause = s.faultCause)

/-! ## Requests that load a script: acceptance, the script, and everything else unchanged -/

/-- 41_init.md R140. -/
def Obligations.InitLoadsItsScript : Prop :=
  ∀ s : State, s.state = .uninit ∨ s.state = .idle ∨ s.state = .sleeping →
    exec .init s = .next { s with
      curReq := .init
      script :=
        [.rst Config.tRstLow Config.tRstHigh, .wait,
         .tx (.cmd .swReset), .wait,
         .tx (.cmd .driverOutputControl), .tx (.data [0xC7, 0x00, 0x00]),
         .tx (.cmd .dataEntryMode), .tx (.data [Config.demByte]),
         .wait, .tx (.cmd .ramXWindow), .tx (.data [0x00, 0x18]),
         .tx (.cmd .ramYWindow), .tx (.data [0x00, 0x00, 0xC7, 0x00]),
         .wait, .tx (.cmd .ramXCounter), .tx (.data [0x00]),
         .tx (.cmd .ramYCounter), .tx (.data [0x00, 0x00]),
         .tx (.cmd .borderWaveform), .tx (.data [Config.bwfByte]),
         .tx (.cmd .tempSensorSource), .tx (.data [Config.tssByte]),
         .tx (.cmd .tempSensorControl), .tx (.data [Config.tscByte0, Config.tscByte1]),
         .wait]
      seqPc := 0
      retState := .idle
      state := .initializing }

/-- 41_init.md R142: the script of WAKE is the script that INIT loads. -/
def Obligations.WakeLoadsTheInitScript : Prop :=
  ∀ s : State, s.state = .uninit ∨ s.state = .idle ∨ s.state = .sleeping →
    exec .wake s = .next { s with
      curReq := .wake
      script := scriptOf .init s.bg
      seqPc := 0
      retState := .idle
      state := .initializing } ∧
    (∀ t, exec .init s = .next t → exec .wake s = .next { t with curReq := .wake })

/-- 44_power_config.md R200. -/
def Obligations.SleepLoadsItsScript : Prop :=
  ∀ s : State, s.state = .idle →
    exec .sleep s = .next { s with
      curReq := .sleep
      script := [.wait, .tx (.cmd .deepSleep), .tx (.data [0x01])]
      seqPc := 0
      retState := .sleeping
      state := .busy }

/-- 42_window.md R158, R155: a valid window. -/
def Obligations.SetRamAreaLoadsItsScript : Prop :=
  ∀ (s : State) (sx sy ex ey : Coord), s.state = .idle →
    sx.toNat < ex.toNat → sy.toNat < ey.toNat →
    exec (.setRamArea sx sy ex ey) s = .next { s with
      curReq := .setRamArea sx sy ex ey
      script :=
        [.wait,
         .tx (.cmd .ramXWindow),
         .tx (.data [BitVec.ofNat 8 (sx.toNat / 8), BitVec.ofNat 8 (ex.toNat / 8)]),
         .tx (.cmd .ramYWindow),
         .tx (.data [BitVec.ofNat 8 (sy.toNat % 256), BitVec.ofNat 8 (sy.toNat / 256),
           BitVec.ofNat 8 (ey.toNat % 256), BitVec.ofNat 8 (ey.toNat / 256)])]
      seqPc := 0
      retState := .idle
      state := .busy }

/-- 42_window.md R159, R156: any counter, no check; accepted in IDLE (40_sequencer.md R129, D11, D17)
and loaded as R121 says (D25, D36). -/
def Obligations.SetRamCounterLoadsItsScript : Prop :=
  ∀ (s : State) (x y : Coord), s.state = .idle →
    exec (.setRamCounter x y) s = .next { s with
      curReq := .setRamCounter x y
      script :=
        [.wait,
         .tx (.cmd .ramXCounter), .tx (.data [BitVec.ofNat 8 (x.toNat / 8)]),
         .tx (.cmd .ramYCounter),
         .tx (.data [BitVec.ofNat 8 (y.toNat % 256), BitVec.ofNat 8 (y.toNat / 256)])]
      seqPc := 0
      retState := .idle
      state := .busy }

/-- 42_window.md R157 (the fragment, as its two parts and as its ten steps), R160; accepted in
IDLE (40_sequencer.md R129, D11, D17) and loaded as R121 says (D25, D36). -/
def Obligations.UseFullFrameLoadsItsScript : Prop :=
  ∀ s : State, s.state = .idle →
    scriptOf .useFullFrame s.bg =
      scriptOf (.setRamArea 0 0 199 199) s.bg ++ scriptOf (.setRamCounter 0 0) s.bg ∧
    exec .useFullFrame s = .next { s with
      curReq := .useFullFrame
      script :=
        [.wait, .tx (.cmd .ramXWindow), .tx (.data [0x00, 0x18]),
         .tx (.cmd .ramYWindow), .tx (.data [0x00, 0x00, 0xC7, 0x00]),
         .wait, .tx (.cmd .ramXCounter), .tx (.data [0x00]),
         .tx (.cmd .ramYCounter), .tx (.data [0x00, 0x00])]
      seqPc := 0
      retState := .idle
      state := .busy }

/-- 43_frame.md R172, R173, R171: the frame writes, with plane operands of 5000 bytes whatever the
bytes are; the achromatic plane after WRITE_RAM1, the chromatic one after WRITE_RAM2. -/
def Obligations.FrameWritesLoadTheirScripts : Prop :=
  ∀ (s : State) (a c : List Byte), s.state = .idle → a.length = 5000 → c.length = 5000 →
    exec (.updateFrame a) s = .next { s with
      curReq := .updateFrame a
      script := [.wait] ++ scriptOf .useFullFrame s.bg ++ [.tx (.cmd .writeRam1), .tx (.data a)]
      seqPc := 0
      retState := .idle
      state := .busy } ∧
    exec (.updateColorFrame a c) s = .next { s with
      curReq := .updateColorFrame a c
      script := [.wait] ++ scriptOf .useFullFrame s.bg ++
        [.tx (.cmd .writeRam1), .tx (.data a), .tx (.cmd .writeRam2), .tx (.data c)]
      seqPc := 0
      retState := .idle
      state := .busy }

/-- 43_frame.md R174: the no-op directly after the master activation, and no Wait after it. -/
def Obligations.DisplayFrameLoadsItsScript : Prop :=
  ∀ s : State, s.state = .idle →
    exec .displayFrame s = .next { s with
      curReq := .displayFrame
      script :=
        [.wait, .tx (.cmd .displayUpdateControl2), .tx (.data [Config.duc2Byte]),
         .tx (.cmd .masterActivation), .tx (.cmd .nop)]
      seqPc := 0
      retState := .idle
      state := .busy }

/-- 43_frame.md R176: the script of UPDATE_FRAME and then the script of DISPLAY_FRAME, as one
request. -/
def Obligations.UpdateAndDisplayFrameLoadsBothScripts : Prop :=
  ∀ (s : State) (a : List Byte), s.state = .idle → a.length = 5000 →
    exec (.updateAndDisplayFrame a) s = .next { s with
      curReq := .updateAndDisplayFrame a
      script := scriptOf (.updateFrame a) s.bg ++ scriptOf .displayFrame s.bg
      seqPc := 0
      retState := .idle
      state := .busy }

/-- 43_frame.md R178, R179: the clear of each background, its fills whole. -/
def Obligations.ClearFrameLoadsTheFillsOfTheBackground : Prop :=
  ∀ s : State, s.state = .idle →
    exec .clearFrame s = .next { s with
      curReq := .clearFrame
      script := [.wait] ++ scriptOf .useFullFrame s.bg ++
        [.tx (.cmd .writeRam1),
         .tx (match s.bg with
          | .white => .fill Config.cbWhite 5000
          | .black => .fill Config.cbBlack 5000
          | .chromatic => .fill 0xFF 10000),
         .tx (.cmd .writeRam2), .tx (.fill 0x00 5000)]
      seqPc := 0
      retState := .idle
      state := .busy }

/-- 40_sequencer.md R130: the number of steps and of Waits of each script, for every background and
every plane. -/
def Obligations.ScriptLengthsAndWaits : Prop :=
  ∀ (bg : Color) (a c : List Byte) (sx sy ex ey : Coord),
    (scriptOf .init bg).length = 25 ∧ waitCount (scriptOf .init bg) = 5 ∧
    (scriptOf .wake bg).length = 25 ∧ waitCount (scriptOf .wake bg) = 5 ∧
    (scriptOf (.setRamArea sx sy ex ey) bg).length = 5 ∧
    waitCount (scriptOf (.setRamArea sx sy ex ey) bg) = 1 ∧
    (scriptOf (.setRamCounter sx sy) bg).length = 5 ∧
    waitCount (scriptOf (.setRamCounter sx sy) bg) = 1 ∧
    (scriptOf .useFullFrame bg).length = 10 ∧ waitCount (scriptOf .useFullFrame bg) = 2 ∧
    (scriptOf (.updateFrame a) bg).length = 13 ∧ waitCount (scriptOf (.updateFrame a) bg) = 3 ∧
    (scriptOf (.updateColorFrame a c) bg).length = 15 ∧
    waitCount (scriptOf (.updateColorFrame a c) bg) = 3 ∧
    (scriptOf .displayFrame bg).length = 5 ∧ waitCount (scriptOf .displayFrame bg) = 1 ∧
    (scriptOf (.updateAndDisplayFrame a) bg).length = 18 ∧
    waitCount (scriptOf (.updateAndDisplayFrame a) bg) = 4 ∧
    (scriptOf .clearFrame bg).length = 15 ∧ waitCount (scriptOf .clearFrame bg) = 3 ∧
    (scriptOf .sleep bg).length = 3 ∧ waitCount (scriptOf .sleep bg) = 1

/-- 30_encoding.md R101: the pseudo-instructions, as equal scripts. -/
def Obligations.PseudoRequestsExpand : Prop :=
  ∀ (bg : Color) (a : List Byte),
    scriptOf .wake bg = scriptOf .init bg ∧
    scriptOf .useFullFrame bg =
      scriptOf (.setRamArea 0 0 199 199) bg ++ scriptOf (.setRamCounter 0 0) bg ∧
    scriptOf (.updateAndDisplayFrame a) bg =
      scriptOf (.updateFrame a) bg ++ scriptOf .displayFrame bg

/-- 70_reset_and_hazards.md R266: in every script an address command stands directly after a Wait, or
after the previous command's payload with the Wait before that command. -/
def Obligations.AddressWritesFollowAWait : Prop :=
  ∀ (r : Instr) (bg : Color) (k : Nat),
    ((scriptOf r bg)[k]? = some (.tx (.cmd .ramXWindow)) ∨
      (scriptOf r bg)[k]? = some (.tx (.cmd .ramXCounter)) →
      ∃ j, k = j + 1 ∧ (scriptOf r bg)[j]? = some .wait) ∧
    ((scriptOf r bg)[k]? = some (.tx (.cmd .ramYWindow)) →
      ∃ j bs, k = j + 3 ∧ (scriptOf r bg)[j]? = some .wait ∧
        (scriptOf r bg)[j + 1]? = some (.tx (.cmd .ramXWindow)) ∧
        (scriptOf r bg)[j + 2]? = some (.tx (.data bs))) ∧
    ((scriptOf r bg)[k]? = some (.tx (.cmd .ramYCounter)) →
      ∃ j bs, k = j + 3 ∧ (scriptOf r bg)[j]? = some .wait ∧
        (scriptOf r bg)[j + 1]? = some (.tx (.cmd .ramXCounter)) ∧
        (scriptOf r bg)[j + 2]? = some (.tx (.data bs)))

/-! ## Requests without a script -/

/-- 44_power_config.md R203. -/
def Obligations.SetBackgroundIsImmediate : Prop :=
  ∀ (s : State) (col : Color), s.state = .uninit ∨ s.state = .idle ∨ s.state = .sleeping →
    exec (.setBackground col) s = .next { s with
      bg := col
      lastRsp := .ok
      responses := s.responses ++ [.ok] }

/-- 30_encoding.md R97, 44_power_config.md R204, R205: both instructions end in the error that is
their effect, ERR_UNSUPPORTED and FAULT (in FAULT, ERR_FAULTED), with no step; and every word with
OP 0xC or 0xD, whatever its other bits, is one of them. -/
def Obligations.UnsupportedRequestsAlwaysFail : Prop :=
  (∀ s : State, s.state = .uninit ∨ s.state = .idle ∨ s.state = .sleeping →
    exec .updatePartialFrame s = .next { s with
      state := .fault
      faultCause := some .unsupported
      lastRsp := .err (.prog .unsupported)
      responses := s.responses ++ [.err (.prog .unsupported)] } ∧
    exec .setLut s = .next { s with
      state := .fault
      faultCause := some .unsupported
      lastRsp := .err (.prog .unsupported)
      responses := s.responses ++ [.err (.prog .unsupported)] }) ∧
  (∀ s : State, s.state = .fault →
    exec .updatePartialFrame s = .next { s with
      lastRsp := .err .faulted
      responses := s.responses ++ [.err .faulted] } ∧
    exec .setLut s = .next { s with
      lastRsp := .err .faulted
      responses := s.responses ++ [.err .faulted] }) ∧
  (∀ r : Request, r.word.extractLsb' 0 4 = 0xC#4 → decodeRequest r = .updatePartialFrame) ∧
  (∀ r : Request, r.word.extractLsb' 0 4 = 0xD#4 → decodeRequest r = .setLut)

/-- 60_exceptions.md R224: the illegal instruction, where requests are taken and STATE is not
FAULT. -/
def Obligations.IllegalIsAnsweredAndNothingElse : Prop :=
  ∀ (s : State) (w : ReqWord), s.state = .uninit ∨ s.state = .idle ∨ s.state = .sleeping →
    exec (.illegal w) s = .next { s with
      lastRsp := .err .illegal
      responses := s.responses ++ [.err .illegal] }

/-! ## Errors -/

/-- 60_exceptions.md R226: in FAULT every request word, legal or illegal, supported or not, is
answered ERR_FAULTED, and only LAST_RSP changes. -/
def Obligations.FaultAnswersFaultedToEveryWord : Prop :=
  ∀ (s : State) (r : Request), s.state = .fault →
    exec (decodeRequest r) s = .next { s with
      lastRsp := .err .faulted
      responses := s.responses ++ [.err .faulted] }

/-- 60_exceptions.md R225, 40_sequencer.md R129: a request that the state does not accept; the state
check comes before the operand check (V-ACC), so no premise on the operands. -/
def Obligations.WrongStateIsRefused : Prop :=
  ∀ (s : State) (i : Instr), s.state = .uninit ∨ s.state = .sleeping →
    hasScript i = true → i ≠ .init → i ≠ .wake →
    exec i s = .next { s with
      lastRsp := .err .state
      responses := s.responses ++ [.err .state] }

/-- 42_window.md R150: the check on the whole coordinates, its examples, and the error before any
step; the request in IDLE is R158 (D17, D11), the error's FAULT and FAULT_CAUSE are 60_exceptions.md
R227 (D8). -/
def Obligations.BadWindowFailsBeforeAnyStep : Prop :=
  (∀ sx sy ex ey : Coord,
    (windowOk sx sy ex ey = true ↔ sx.toNat < ex.toNat ∧ sy.toNat < ey.toNat)) ∧
  windowOk 0 0 7 1 = true ∧ windowOk 8 16 15 16 = false ∧ windowOk 0 0 511 511 = true ∧
  (∀ (s : State) (sx sy ex ey : Coord), s.state = .idle →
    ex.toNat ≤ sx.toNat ∨ ey.toNat ≤ sy.toNat →
    exec (.setRamArea sx sy ex ey) s = .next { s with
      state := .fault
      faultCause := some .window
      lastRsp := .err (.prog .window)
      responses := s.responses ++ [.err (.prog .window)] })

/-- 43_frame.md R177: a plane operand of any length but 5000 fails before any step, in each of the
three requests that carry one. -/
def Obligations.BadPlaneLengthFailsBeforeAnyStep : Prop :=
  ∀ (s : State) (a c : List Byte), s.state = .idle →
    (a.length ≠ 5000 →
      exec (.updateFrame a) s = .next { s with
        state := .fault
        faultCause := some .length
        lastRsp := .err (.prog .length)
        responses := s.responses ++ [.err (.prog .length)] } ∧
      exec (.updateAndDisplayFrame a) s = exec (.updateFrame a) s) ∧
    (a.length ≠ 5000 ∨ c.length ≠ 5000 →
      exec (.updateColorFrame a c) s = .next { s with
        state := .fault
        faultCause := some .length
        lastRsp := .err (.prog .length)
        responses := s.responses ++ [.err (.prog .length)] })

/-- 40_sequencer.md R127, R124: a failed transaction of any kind; R128 and R129 follow from
STATE = UNINIT. -/
def Obligations.TransportFailureAborts : Prop :=
  ∀ (s : State) (t : Tx), s.env.rstAsserted = false → s.state.executes = true →
    s.script[s.seqPc]? = some (.tx t) → s.env.txOutcome = .err →
    ∃ u, step s = .next u ∧ u.state = .uninit ∧ u.seqPc = 0 ∧
      u.lastRsp = .err .transport ∧ u.responses = s.responses ++ [.err .transport] ∧
      u.trace = s.trace ++ [.txfail t] ∧ u.bg = s.bg ∧ u.faultCause = s.faultCause ∧
      u.env.reqs = s.env.reqs ∧ u.panelRst = s.panelRst ∧ u.busyTimeoutEn = s.busyTimeoutEn

/-! ## Performing steps -/

/-- 30_encoding.md R100, 40_sequencer.md R124: the commands of INIT's configuration, answered ok.
That a panel row is an instruction whose meaning is the Cmd step, with no look at STATE or SCRIPT, is
the model's choice (log 11). -/
def Obligations.ConfigurationCommandsComplete : Prop :=
  ∀ s : State, s.env.txOutcome = .ok →
    let done (p : PanelOp) : State := { s with
      trace := s.trace ++ [.tx (.cmd p)]
      seqPc := s.seqPc + 1
      env := s.env.popTx }
    exec .panelSwReset s = .next (done .swReset) ∧
    exec .panelDriverOutputControl s = .next (done .driverOutputControl) ∧
    exec .panelDataEntryMode s = .next (done .dataEntryMode) ∧
    exec .panelBorderWaveform s = .next (done .borderWaveform) ∧
    exec .panelTempSensorSource s = .next (done .tempSensorSource) ∧
    exec .panelTempSensorControl s = .next (done .tempSensorControl)

/-- 30_encoding.md R100, 40_sequencer.md R124: the window, counter and plane commands, answered ok.
That a panel row is an instruction whose meaning is the Cmd step, with no look at STATE or SCRIPT, is
the model's choice (log 11). -/
def Obligations.AddressAndPlaneCommandsComplete : Prop :=
  ∀ s : State, s.env.txOutcome = .ok →
    let done (p : PanelOp) : State := { s with
      trace := s.trace ++ [.tx (.cmd p)]
      seqPc := s.seqPc + 1
      env := s.env.popTx }
    exec .panelRamXWindow s = .next (done .ramXWindow) ∧
    exec .panelRamYWindow s = .next (done .ramYWindow) ∧
    exec .panelRamXCounter s = .next (done .ramXCounter) ∧
    exec .panelRamYCounter s = .next (done .ramYCounter) ∧
    exec .panelWriteRam1 s = .next (done .writeRam1) ∧
    exec .panelWriteRam2 s = .next (done .writeRam2)

/-- 30_encoding.md R100, 40_sequencer.md R124: the display and sleep commands, answered ok.
That a panel row is an instruction whose meaning is the Cmd step, with no look at STATE or SCRIPT, is
the model's choice (log 11). -/
def Obligations.DisplayAndSleepCommandsComplete : Prop :=
  ∀ s : State, s.env.txOutcome = .ok →
    let done (p : PanelOp) : State := { s with
      trace := s.trace ++ [.tx (.cmd p)]
      seqPc := s.seqPc + 1
      env := s.env.popTx }
    exec .panelDisplayUpdateControl2 s = .next (done .displayUpdateControl2) ∧
    exec .panelMasterActivation s = .next (done .masterActivation) ∧
    exec .panelNop s = .next (done .nop) ∧
    exec .panelDeepSleep s = .next (done .deepSleep)

/-- 40_sequencer.md R124: a reset step has no failure outcome (92_eei_decisions.md D10); a transaction
answered ok is recorded and moves SEQ_PC by exactly one, and one answered err raises ERR_TRANSPORT
(R127, D9). That CUR_REQ, SCRIPT and RET_STATE keep their values is the model's (log 7), and so is the
panel reset line as a level (log 17). -/
def Obligations.TransactionStepsAsSpecified : Prop :=
  ∀ s : State, s.env.rstAsserted = false → s.state.executes = true →
    (∀ tl th, s.script[s.seqPc]? = some (.rst tl th) →
      step s = .next { s with
        panelRst := true
        trace := s.trace ++ [.rst tl th]
        seqPc := s.seqPc + 1
        env := s.env.popRst }) ∧
    (∀ t, s.script[s.seqPc]? = some (.tx t) →
      (s.env.txOutcome = .ok →
        step s = .next { s with
          trace := s.trace ++ [.tx t]
          seqPc := s.seqPc + 1
          env := s.env.popRst.popTx }) ∧
      (s.env.txOutcome = .err →
        step s = .next { s with
          trace := s.trace ++ [.txfail t]
          state := .uninit
          seqPc := 0
          lastRsp := .err .transport
          responses := s.responses ++ [.err .transport]
          env := s.env.popRst.popTx }))

/-- 40_sequencer.md R122: what reads busy, for either polarity; an idle sample completes the
Wait; a busy one never does, and with BUSY_TIMEOUT_EN false it holds with nothing changed but the
sample used up, for as many busy samples as come. That a hold is a step which uses up one sample, where
R122 speaks of no step, is the model's reading (DEDUCED, log 25). -/
def Obligations.WaitCompletesOnlyOnIdle : Prop :=
  (∀ low level : Bool, readsBusy low level = true ↔
    (low = true ∧ level = false) ∨ (low = false ∧ level = true)) ∧
  Config.isBusyLow = false ∧
  (∀ s : State, s.env.rstAsserted = false → s.state.executes = true →
    s.script[s.seqPc]? = some .wait →
    (s.env.busyLevel = false →
      step s = .next { s with
        trace := s.trace ++ [.wait]
        seqPc := s.seqPc + 1
        env := s.env.popRst.popBusy }) ∧
    (s.env.busyLevel = true → s.busyTimeoutEn = false →
      step s = .next { s with env := s.env.popRst.popBusy }) ∧
    (s.env.busyLevel = true → ∀ t, step s = .next t → t.trace ≠ s.trace ++ [.wait])) ∧
  (∀ (s : State) (n : Nat) (bs : List Bool), s.env.noReset → s.state.executes = true →
    s.script[s.seqPc]? = some .wait → s.busyTimeoutEn = false →
    s.env.busyIn = List.replicate n true ++ bs →
    ∃ t : State, Host.Core.run Sys2Proof.core n s = .next t ∧ t.trace = s.trace ∧
      t.responses = s.responses ∧ t.seqPc = s.seqPc ∧ t.state = s.state ∧ t.env.busyIn = bs)

/-- 40_sequencer.md R123 (92_eei_decisions.md D22): with BUSY_TIMEOUT_EN, a busy sample may end the
request, as the draw says; an idle one never does. That one draw is made at each busy sample and none
at an idle one, that a hold is a step which uses up one sample, and that CUR_REQ, SCRIPT and RET_STATE
keep their values, is the model's (log 22, 25, 7). -/
def Obligations.TimeoutOnlyAtABusySample : Prop :=
  ∀ s : State, s.env.rstAsserted = false → s.state.executes = true →
    s.script[s.seqPc]? = some .wait → s.busyTimeoutEn = true →
    (s.env.busyLevel = true → s.env.popBusy.timeoutFires = true →
      step s = .next { s with
        trace := s.trace ++ [.timeout]
        state := .uninit
        seqPc := 0
        lastRsp := .err .timeout
        responses := s.responses ++ [.err .timeout]
        env := s.env.popRst.popBusy.popTimeout }) ∧
    (s.env.busyLevel = true → s.env.popBusy.timeoutFires = false →
      step s = .next { s with env := s.env.popRst.popBusy.popTimeout }) ∧
    (s.env.busyLevel = false →
      step s = .next { s with
        trace := s.trace ++ [.wait]
        seqPc := s.seqPc + 1
        env := s.env.popRst.popBusy })

/-- 40_sequencer.md R126, with the invariant of the registers (R26: RET_STATE is IDLE or SLEEPING
while a request executes), so that `req.ready` is 1 again. That completion is a step of its own, taken
with SEQ_PC at the script's length, is the model's reading (DEDUCED, log 9). -/
def Obligations.CompletionAnswersOk : Prop :=
  ∀ s : State, s.Inv → s.env.rstAsserted = false → s.state.executes = true →
    s.seqPc = s.script.length →
    ∃ u, step s = .next u ∧ u.state = s.retState ∧ u.seqPc = 0 ∧ u.lastRsp = .ok ∧
      u.responses = s.responses ++ [.ok] ∧ u.reqReady = true ∧
      u.trace = s.trace ∧ u.bg = s.bg ∧ u.faultCause = s.faultCause ∧ u.env.reqs = s.env.reqs

/-! ## Whole-machine rules -/

/-- 60_exceptions.md R221, R220: a step that delivers anything delivers one response, and LAST_RSP
holds its code; a step that delivers nothing leaves LAST_RSP, block reset apart. -/
def Obligations.LastRspIsTheResponseDelivered : Prop :=
  ∀ s t : State, step s = .next t →
    (∃ c, t.responses = s.responses ++ [c] ∧ t.lastRsp = c) ∨
    (t.responses = s.responses ∧ (s.env.rstAsserted = false → t.lastRsp = s.lastRsp))

/-- 10_state.md R35: the history is only appended to, one event a step at most, and no rule reads
it. -/
def Obligations.HistoryIsAppendedAndNeverRead : Prop :=
  ∀ (s t : State) (tr : List Event) (rs : List Rsp), step s = .next t →
    ∃ es cs, es.length ≤ 1 ∧ cs.length ≤ 1 ∧
      t.trace = s.trace ++ es ∧ t.responses = s.responses ++ cs ∧
      step { s with trace := tr, responses := rs } =
        .next { t with trace := tr ++ es, responses := rs ++ cs }

/-- 10_state.md R23: the codes of BG; it is written only by SET_BACKGROUND and by block reset; and of
the requests only CLEAR_FRAME reads it, of the status registers only STATUS: two blocks that differ in
BG alone step to blocks that differ in BG at most, unless a CLEAR_FRAME is taken. -/
def Obligations.BgIsWrittenAndReadOnlyAsStated : Prop :=
  Color.code .white = 0#2 ∧ Color.code .black = 1#2 ∧ Color.code .chromatic = 2#2 ∧
  (∀ s t : State, step s = .next t → t.bg ≠ s.bg →
    s.env.rstAsserted = true ∨
    (s.reqReady = true ∧ ∃ r, s.env.offered = some r ∧ decodeRequest r = .setBackground t.bg)) ∧
  (∀ (s t : State) (b : Color), step s = .next t →
    (∀ r, s.reqReady = true → s.env.offered = some r → decodeRequest r ≠ .clearFrame) →
    ∃ c, step { s with bg := b } = .next { t with bg := c }) ∧
  (∀ (s : State) (b : Color) (sel : Nat), sel ≠ 0 → { s with bg := b }.statData sel = s.statData sel)

/-- 60_exceptions.md R239, 44_power_config.md R201: a step leaves SLEEPING by INIT or WAKE, by an
unsupported request (to FAULT) or by block reset (to UNINIT), and by nothing else; and each of them
does leave it. -/
def Obligations.ExitsFromSleeping : Prop :=
  (∀ s t : State, s.state = .sleeping → step s = .next t →
    t.state = .sleeping ∨
    (s.env.rstAsserted = true ∧ t.state = .uninit) ∨
    (∃ r, s.env.offered = some r ∧
      ((t.state = .initializing ∧ (decodeRequest r = .init ∨ decodeRequest r = .wake)) ∨
       (t.state = .fault ∧ (decodeRequest r = .updatePartialFrame ∨ decodeRequest r = .setLut))))) ∧
  (∀ s : State, s.state = .sleeping →
    (s.env.rstAsserted = true → ∃ t, step s = .next t ∧ t.state = .uninit) ∧
    (∀ r, s.env.rstAsserted = false → s.env.offered = some r →
      (decodeRequest r = .init ∨ decodeRequest r = .wake →
        ∃ t, step s = .next t ∧ t.state = .initializing ∧ t.retState = .idle) ∧
      (decodeRequest r = .updatePartialFrame ∨ decodeRequest r = .setLut →
        ∃ t, step s = .next t ∧ t.state = .fault)))

/-- 40_sequencer.md R121: the script is fixed when the request is loaded: no step of an executing
block changes SCRIPT, CUR_REQ, RET_STATE or BG, block reset apart; and every script loaded is
non-empty. For the step that completes or aborts, after which 10_state.md R25 leaves the first three
undefined, that they keep their values is the model's reading (DEDUCED, log 7). -/
def Obligations.ScriptIsFixedWhileItRuns : Prop :=
  (∀ s t : State, s.env.rstAsserted = false → s.state.executes = true → step s = .next t →
    t.script = s.script ∧ t.curReq = s.curReq ∧ t.retState = s.retState ∧ t.bg = s.bg) ∧
  (∀ (i : Instr) (s t : State), isRequest i = true → s.reqReady = true → exec i s = .next t →
    t.state.executes = true →
    t.curReq = i ∧ t.script = scriptOf i s.bg ∧ t.script ≠ [] ∧ t.seqPc = 0 ∧
    t.retState = (if i = .sleep then .sleeping else .idle) ∧
    t.state = (if i = .init ∨ i = .wake then .initializing else .busy))

/-- 10_state.md R24 to R28, 40_sequencer.md R121: every step keeps the invariant of the registers,
from every state that has it. -/
def Obligations.StepKeepsTheRegisterInvariant : Prop :=
  ∀ s t : State, s.Inv → step s = .next t → t.Inv

/-- The invariants hold right after reset. -/
def Obligations.ResetHasTheInvariants : Prop := State.reset.Inv ∧ State.reset.ActivationInv

/-- 43_frame.md R175: every step keeps the rule that a master activation is followed directly by the
no-op, its failure, or a block reset. -/
def Obligations.StepKeepsTheActivationRule : Prop :=
  ∀ s t : State, s.Inv → s.ActivationInv → step s = .next t → t.ActivationInv

/-- With the invariant, a step never stops: every word, answer and level the environment can give
has a next state. For the steps of a script but the Wait that is 40_sequencer.md R125 ("Every other
step is always enabled"); that a busy sample at a Wait is a step is the model's (log 25), and so are
completion as a step (log 9) and the step of a ready block with nothing offered (log 5). -/
def Obligations.StepNeverStops : Prop :=
  ∀ s : State, s.Inv → ∃ t, step s = .next t

/-! ## Runs -/

/-- 40_sequencer.md R122 to R126, R131: from the loading of any script, if the first sample of each Wait
reads idle (more than R125's fairness, which FairPanelEndsEveryRequest assumes) and every transaction is
answered ok, the block emits exactly the script's events in order, answers OK once, and ends in
RET_STATE, the offered requests untouched. The one step that is counted for completion is the model's
(DEDUCED, log 9). -/
def Obligations.LoadedScriptRunsToItsEnd : Prop :=
  ∀ (s : State) (bs : List Bool) (ts : List TxOutcome),
    s.state.executes = true → s.seqPc = 0 →
    s.env.calm (waitCount s.script) (txCount s.script) bs ts →
    ∃ t : State, Host.Core.run Sys2Proof.core (s.script.length + 1) s = .next t ∧
      t.trace = s.trace ++ s.script.map ScriptStep.event ∧
      t.responses = s.responses ++ [.ok] ∧ t.lastRsp = .ok ∧ t.state = s.retState ∧
      t.seqPc = 0 ∧ t.bg = s.bg ∧ t.faultCause = s.faultCause ∧
      t.env.reqs = s.env.reqs ∧ t.env.busyIn = bs ∧ t.env.txIn = ts

/-- The same from the offer of the request: a request that STATE accepts and whose operands pass is
taken, runs its script and is answered OK; nothing of another request comes between. The one step that
is counted for completion is the model's (DEDUCED, log 9). -/
def Obligations.AcceptedRequestRunsToItsResponse : Prop :=
  ∀ (s : State) (r : Request) (rest : List Request) (bs : List Bool) (ts : List TxOutcome),
    s.env.reqs = r :: rest → acceptedIn (decodeRequest r) s.state = true →
    operandsPass (decodeRequest r) = true →
    s.env.calm (waitCount (scriptOf (decodeRequest r) s.bg))
      (txCount (scriptOf (decodeRequest r) s.bg)) bs ts →
    ∃ t : State, Host.Core.run Sys2Proof.core ((scriptOf (decodeRequest r) s.bg).length + 2) s = .next t ∧
      t.trace = s.trace ++ (scriptOf (decodeRequest r) s.bg).map ScriptStep.event ∧
      t.responses = s.responses ++ [.ok] ∧ t.lastRsp = .ok ∧
      t.state = retStateOf (decodeRequest r) ∧ t.bg = s.bg ∧ t.faultCause = s.faultCause ∧
      t.env.reqs = rest

/-- 40_sequencer.md R127, R128, 60_exceptions.md R228, R230: a failure of step k of any script: the
events of exactly the steps before it, then TXFAIL, one ERR_TRANSPORT, STATE = UNINIT. -/
def Obligations.FailedStepEndsTheTrace : Prop :=
  ∀ (s : State) (k : Nat) (x : Tx) (bs : List Bool) (ts : List TxOutcome),
    s.state.executes = true → s.seqPc = 0 → s.script[k]? = some (.tx x) →
    s.env.calm (waitCount (s.script.take k)) (txCount (s.script.take k)) bs (.err :: ts) →
    ∃ t : State, Host.Core.run Sys2Proof.core (k + 1) s = .next t ∧
      t.trace = s.trace ++ (s.script.take k).map ScriptStep.event ++ [.txfail x] ∧
      t.responses = s.responses ++ [.err .transport] ∧ t.lastRsp = .err .transport ∧
      t.state = .uninit ∧ t.seqPc = 0 ∧ t.bg = s.bg ∧ t.env.reqs = s.env.reqs

/-- 40_sequencer.md R122: a Wait holds through any number of busy samples, with nothing recorded and
no response, and completes at the first idle one, with one WAIT event. That n busy samples are n steps
which use up the samples, where R122 speaks of no step, is the model's reading (DEDUCED, log 25). -/
def Obligations.BusyHoldLastsUntilIdle : Prop :=
  ∀ (s : State) (n : Nat) (bs : List Bool),
    s.state.executes = true → s.busyTimeoutEn = false → s.env.noReset →
    s.script[s.seqPc]? = some .wait →
    s.env.busyIn = List.replicate n true ++ false :: bs →
    (∃ t : State, Host.Core.run Sys2Proof.core n s = .next t ∧
      t.trace = s.trace ∧ t.responses = s.responses ∧ t.seqPc = s.seqPc ∧ t.state = s.state) ∧
    (∃ t : State, Host.Core.run Sys2Proof.core (n + 1) s = .next t ∧
      t.trace = s.trace ++ [.wait] ∧ t.responses = s.responses ∧ t.seqPc = s.seqPc + 1 ∧
      t.state = s.state ∧ t.env.busyIn = bs)

/-! ## Operands and status -/

/-- 42_window.md R151 to R154: the payload functions, that an X byte is at most 63 (it drops the low
three bits), and that a Y high byte is 0 or 1. -/
def Obligations.PayloadFunctions : Prop :=
  (∀ x : Coord, x.toNat / 8 ≤ 63 ∧ (xByte x).toNat = x.toNat / 8) ∧
  (∀ y : Coord, hi1 y = 0x00#8 ∨ hi1 y = 0x01#8) ∧
  (∀ x x' : Coord, xWindow x x' = [BitVec.ofNat 8 (x.toNat / 8), BitVec.ofNat 8 (x'.toNat / 8)]) ∧
  (∀ x : Coord, xCounter x = [BitVec.ofNat 8 (x.toNat / 8)]) ∧
  (∀ y y' : Coord, yWindow y y' =
    [BitVec.ofNat 8 (y.toNat % 256), BitVec.ofNat 8 (y.toNat / 256),
     BitVec.ofNat 8 (y'.toNat % 256), BitVec.ofNat 8 (y'.toNat / 256)]) ∧
  (∀ y : Coord, yCounter y = [BitVec.ofNat 8 (y.toNat % 256), BitVec.ofNat 8 (y.toNat / 256)]) ∧
  xWindow 0 199 = [0x00, 0x18] ∧ xWindow 7 8 = [0x00, 0x01] ∧ xWindow 511 511 = [0x3F, 0x3F] ∧
  yWindow 0 199 = [0x00, 0x00, 0xC7, 0x00] ∧ yWindow 255 256 = [0xFF, 0x00, 0x00, 0x01] ∧
  yWindow 0 511 = [0x00, 0x00, 0xFF, 0x01] ∧
  xCounter 0 = [0x00] ∧ xCounter 15 = [0x01] ∧ xCounter 199 = [0x18] ∧
  yCounter 0 = [0x00, 0x00] ∧ yCounter 199 = [0xC7, 0x00] ∧ yCounter 257 = [0x01, 0x01]

/-- 20_memory.md R63, R65, 42_window.md R161: the split of a 9-bit value loses nothing and its high
byte is 0 or 1; the X byte is below 64, and does not depend on the low three bits. -/
def Obligations.SplitIsLosslessAndXTruncates : Prop :=
  (∀ v : Coord, v.toNat = (lo8 v).toNat + 256 * (hi1 v).toNat ∧ (hi1 v).toNat ≤ 1) ∧
  (∀ x : Coord, (xByte x).toNat < 64) ∧
  (∀ x x' : Coord, x.toNat / 8 = x'.toNat / 8 ↔ xByte x = xByte x')

/-- 41_init.md R141: the driver-output-control payload for every height of 1 to 512, and the two
examples. The reading as three bytes is the spec's own (92_eei_decisions.md D35, 90_conflicts.md C1),
and R141 marks the example of height 300 as derived. -/
def Obligations.DriverOutputControlPayload : Prop :=
  (∀ h : Nat, 1 ≤ h → h ≤ 512 →
    driverOutputControl h = [BitVec.ofNat 8 ((h - 1) % 256), BitVec.ofNat 8 ((h - 1) / 256), 0x00]) ∧
  driverOutputControl 200 = [0xC7, 0x00, 0x00] ∧ driverOutputControl 300 = [0x2B, 0x01, 0x00]

/-- 43_frame.md R179: the fills; R170, 00_scope.md R8 (D20): that White and Black have different bytes,
which the model's form of CB_BLACK gives (DESIGN CHOICE, log 2). -/
def Obligations.ClearFillSelection : Prop :=
  clearFillA .chromatic = (0xFF, 10000) ∧
  clearFillA .white = (Config.cbWhite, 5000) ∧ clearFillA .black = (Config.cbBlack, 5000) ∧
  clearFillC = (0x00, 5000) ∧ Config.cbWhite ≠ Config.cbBlack

/-- 10_state.md R29: the fields of STATUS, in every state, and the codes that they show: STATE (R21), BG
(R23), LAST_RSP (60_exceptions.md R222) and FAULT_CAUSE (R28), spec's own numbers (D6, D8, D25). The upper half of `stat_data`, zero, is the
model's (log 21). -/
def Obligations.StatusShowsTheRegisters : Prop :=
  (∀ s : State,
    (s.statData 0).extractLsb' 0 3 = s.state.code ∧
    (s.statData 0).extractLsb' 3 2 = s.bg.code ∧
    ((s.statData 0).getLsbD 5 = true ↔ s.state = .fault) ∧
    ((s.statData 0).getLsbD 6 = true ↔ s.state = .initializing ∨ s.state = .busy) ∧
    (s.statData 0).getLsbD 7 = false ∧
    (s.statData 0).extractLsb' 8 4 = s.lastRsp.code ∧
    (s.statData 0).extractLsb' 12 4 = faultCauseCode s.faultCause ∧
    (s.statData 0).extractLsb' 16 16 = 0#16) ∧
  (FsmState.code .uninit = 0#3 ∧ FsmState.code .initializing = 1#3 ∧ FsmState.code .idle = 2#3 ∧
    FsmState.code .busy = 3#3 ∧ FsmState.code .sleeping = 4#3 ∧ FsmState.code .fault = 5#3) ∧
  (Color.code .white = 0#2 ∧ Color.code .black = 1#2 ∧ Color.code .chromatic = 2#2) ∧
  (Rsp.code .ok = 0x0#4 ∧ Rsp.code (.err .illegal) = 0x1#4 ∧ Rsp.code (.err .state) = 0x2#4 ∧
    Rsp.code (.err (.prog .window)) = 0x3#4 ∧ Rsp.code (.err (.prog .length)) = 0x4#4 ∧
    Rsp.code (.err (.prog .unsupported)) = 0x5#4 ∧ Rsp.code (.err .transport) = 0x6#4 ∧
    Rsp.code (.err .timeout) = 0x7#4 ∧ Rsp.code (.err .faulted) = 0x8#4 ∧ Rsp.code .none = 0xF#4) ∧
  (faultCauseCode none = 0x0#4 ∧ faultCauseCode (some .window) = 0x3#4 ∧
    faultCauseCode (some .length) = 0x4#4 ∧ faultCauseCode (some .unsupported) = 0x5#4)

/-- 10_state.md R30: GEOMETRY, CONFIG and every other select. -/
def Obligations.GeometryAndConfigRead : Prop :=
  ∀ (s : State) (sel : Nat),
    s.statData 1 = 0x00C800C8#32 ∧
    s.statData 2 = (if s.busyTimeoutEn then 2#32 else 0#32) ∧
    (3 ≤ sel → s.statData sel = 0#32)

/-! ## Fairness -/

/-- 40_sequencer.md R125, with R122 to R127 and 60_exceptions.md R220, R228, R229: under panel fairness,
with no block reset, an executing request ends, whatever the collaborator answers and whenever the
timeout fires, with exactly one response: OK, RET_STATE and the events of all its remaining steps; or an
error, UNINIT and the events of the steps before the one that ended it. ERR_TRANSPORT needs an answer
other than ok, ERR_TIMEOUT the opt-in. Holds are steps that use up samples and completion is a step of
its own in the model (DEDUCED, log 25, 9); fairness itself is said of the model's inputs (log 3, 27). -/
def Obligations.FairPanelEndsEveryRequest : Prop :=
  ∀ s : State, s.state.executes = true → s.seqPc ≤ s.script.length → s.env.noReset → s.panelFair →
    ∃ (n : Nat) (t : State) (c : Rsp), Host.Core.run Sys2Proof.core n s = .next t ∧
      t.responses = s.responses ++ [c] ∧ t.lastRsp = c ∧ t.seqPc = 0 ∧ t.bg = s.bg ∧
      t.faultCause = s.faultCause ∧ t.env.reqs = s.env.reqs ∧
      ((c = .ok ∧ t.state = s.retState ∧
          t.trace = s.trace ++ (s.script.drop s.seqPc).map ScriptStep.event) ∨
       (t.state = .uninit ∧ ∃ (done : List ScriptStep) (x : ScriptStep) (rest : List ScriptStep),
          s.script.drop s.seqPc = done ++ x :: rest ∧
          ((c = .err .transport ∧
              (∀ ts, s.env.txIn ≠
                List.replicate (txCount (s.script.drop s.seqPc)) .ok ++ ts) ∧
              ∃ tx, x = .tx tx ∧
                t.trace = s.trace ++ done.map ScriptStep.event ++ [.txfail tx]) ∨
           (c = .err .timeout ∧ s.busyTimeoutEn = true ∧ x = .wait ∧
              t.trace = s.trace ++ done.map ScriptStep.event ++ [.timeout]))))
end

