-- ==== Sys2Proof/Laws/Decode.lean ====
section
/-! SUPPORT. The fields of an assembled word, the field checks as masks and as bits, and what the
decoder gives for each value of OP. -/

namespace Sys2Proof

/-! ## Fields of an assembled word (30_encoding.md R99) -/

@[simp] theorem fieldOp_assembleWord (op : BitVec 4) (col : BitVec 2) (a0 a1 a2 a3 : Coord) :
    fieldOp (assembleWord op col a0 a1 a2 a3) = op := by
  apply BitVec.eq_of_getLsbD_eq
  intro i hi
  interval_cases i <;> simp [fieldOp, assembleWord]

@[simp] theorem fieldCol_assembleWord (op : BitVec 4) (col : BitVec 2) (a0 a1 a2 a3 : Coord) :
    fieldCol (assembleWord op col a0 a1 a2 a3) = col := by
  apply BitVec.eq_of_getLsbD_eq
  intro i hi
  interval_cases i <;> simp [fieldCol, assembleWord]

@[simp] theorem fieldA0_assembleWord (op : BitVec 4) (col : BitVec 2) (a0 a1 a2 a3 : Coord) :
    fieldA0 (assembleWord op col a0 a1 a2 a3) = a0 := by
  apply BitVec.eq_of_getLsbD_eq
  intro i hi
  interval_cases i <;> simp [fieldA0, assembleWord]

@[simp] theorem fieldA1_assembleWord (op : BitVec 4) (col : BitVec 2) (a0 a1 a2 a3 : Coord) :
    fieldA1 (assembleWord op col a0 a1 a2 a3) = a1 := by
  apply BitVec.eq_of_getLsbD_eq
  intro i hi
  interval_cases i <;> simp [fieldA1, assembleWord]

@[simp] theorem fieldA2_assembleWord (op : BitVec 4) (col : BitVec 2) (a0 a1 a2 a3 : Coord) :
    fieldA2 (assembleWord op col a0 a1 a2 a3) = a2 := by
  apply BitVec.eq_of_getLsbD_eq
  intro i hi
  interval_cases i <;> simp [fieldA2, assembleWord]

@[simp] theorem fieldA3_assembleWord (op : BitVec 4) (col : BitVec 2) (a0 a1 a2 a3 : Coord) :
    fieldA3 (assembleWord op col a0 a1 a2 a3) = a3 := by
  apply BitVec.eq_of_getLsbD_eq
  intro i hi
  interval_cases i <;> simp [fieldA3, assembleWord]

@[simp] theorem fieldRsv0_assembleWord (op : BitVec 4) (col : BitVec 2) (a0 a1 a2 a3 : Coord) :
    fieldRsv0 (assembleWord op col a0 a1 a2 a3) = 0#2 := by
  apply BitVec.eq_of_getLsbD_eq
  intro i hi
  interval_cases i <;> simp [fieldRsv0, assembleWord]

@[simp] theorem fieldRsv1_assembleWord (op : BitVec 4) (col : BitVec 2) (a0 a1 a2 a3 : Coord) :
    fieldRsv1 (assembleWord op col a0 a1 a2 a3) = 0#4 := by
  apply BitVec.eq_of_getLsbD_eq
  intro i hi
  interval_cases i <;> simp [fieldRsv1, assembleWord]

/-! ## The field checks as bits -/

theorem extract_eq_zero_iff {w : ReqWord} {k n : Nat} :
    w.extractLsb' k n = 0#n ↔ ∀ j < n, w.getLsbD (k + j) = false := by
  constructor
  · intro hv j hj
    simpa [hj] using congrArg (fun z => z.getLsbD j) hv
  · intro h
    apply BitVec.eq_of_getLsbD_eq
    intro i hi
    simp [hi, h i hi]

/-- The same over the word's own bit numbers. -/
theorem extract_eq_zero_iff_bits {w : ReqWord} {k n : Nat} :
    w.extractLsb' k n = 0#n ↔ ∀ j, k ≤ j → j < k + n → w.getLsbD j = false := by
  rw [extract_eq_zero_iff]
  constructor
  · intro h j h1 h2
    simpa [show k + (j - k) = j by omega] using h (j - k) (by omega)
  · intro h j hj
    exact h _ (by omega) (by omega)

theorem and_eq_zero_iff {w m : ReqWord} :
    w &&& m = 0#48 ↔ ∀ j < 48, m.getLsbD j = true → w.getLsbD j = false := by
  constructor
  · intro hv j _ hm
    simpa [hm] using congrArg (fun z => z.getLsbD j) hv
  · intro h
    apply BitVec.eq_of_getLsbD_eq
    intro i hi
    cases hm : m.getLsbD i
    · simp [hm]
    · simp [h i hi hm]

/-- Every bit of a word at or above bit 4 lies in one field. -/
theorem bit_of_fields {w : ReqWord} {j : Nat} (hc : j < 6 → w.getLsbD j = false) (hr0 : 6 ≤ j → j < 8 → w.getLsbD j = false)
    (h0 : 8 ≤ j → j < 17 → w.getLsbD j = false) (h1 : 17 ≤ j → j < 26 → w.getLsbD j = false)
    (h2 : 26 ≤ j → j < 35 → w.getLsbD j = false) (h3 : 35 ≤ j → j < 44 → w.getLsbD j = false)
    (hr1 : 44 ≤ j → w.getLsbD j = false) : w.getLsbD j = false := by
  rcases Nat.lt_or_ge j 6 with h | h
  · exact hc h
  rcases Nat.lt_or_ge j 8 with h' | h'
  · exact hr0 h h'
  rcases Nat.lt_or_ge j 17 with h'' | h''
  · exact h0 h' h''
  rcases Nat.lt_or_ge j 26 with h3' | h3'
  · exact h1 h'' h3'
  rcases Nat.lt_or_ge j 35 with h4' | h4'
  · exact h2 h3' h4'
  rcases Nat.lt_or_ge j 44 with h5' | h5'
  · exact h3 h4' h5'
  · exact hr1 h5'

/-- The R92 check `plainFields` is the mask of `zeroMask`. -/
theorem plainFields_iff_mask (w : ReqWord) : plainFields w = true ↔ w &&& 0xFFFFFFFFFFF0#48 = 0#48 := by
  simp only [plainFields, coordsZero, reservedZero, fieldCol, fieldRsv0, fieldA0, fieldA1, fieldA2, fieldA3, fieldRsv1,
    Bool.and_eq_true, beq_iff_eq, extract_eq_zero_iff_bits, and_eq_zero_iff]
  constructor
  · rintro ⟨⟨hc, ⟨⟨h0, h1⟩, h2⟩, h3⟩, hr0, hr1⟩ j hj hm
    rcases Nat.lt_or_ge j 4 with h | h
    · interval_cases j <;> simp at hm
    · refine bit_of_fields (fun a => ?_) (fun a b => ?_) (fun a b => ?_) (fun a b => ?_)
        (fun a b => ?_) (fun a b => ?_) (fun a => ?_)
      · exact hc j h a
      · exact hr0 j a b
      · exact h0 j a b
      · exact h1 j a b
      · exact h2 j a b
      · exact h3 j a b
      · exact hr1 j a hj
  · intro h
    refine ⟨⟨?_, ⟨⟨?_, ?_⟩, ?_⟩, ?_⟩, ?_, ?_⟩ <;> intro j h1 h2 <;> refine h j (by omega) ?_ <;>
      interval_cases j <;> decide

/-- The R92 check `backgroundFields` is the mask of `zeroMask`. -/
theorem backgroundFields_iff_mask (w : ReqWord) : backgroundFields w = true ↔ w &&& 0xFFFFFFFFFFC0#48 = 0#48 := by
  simp only [backgroundFields, coordsZero, reservedZero, fieldRsv0, fieldA0, fieldA1, fieldA2, fieldA3, fieldRsv1,
    Bool.and_eq_true, beq_iff_eq, extract_eq_zero_iff_bits, and_eq_zero_iff]
  constructor
  · rintro ⟨⟨⟨⟨h0, h1⟩, h2⟩, h3⟩, hr0, hr1⟩ j hj hm
    rcases Nat.lt_or_ge j 4 with h | h
    · interval_cases j <;> simp at hm
    · refine bit_of_fields (fun a => ?_) (fun a b => ?_) (fun a b => ?_) (fun a b => ?_)
        (fun a b => ?_) (fun a b => ?_) (fun a => ?_)
      · interval_cases j <;> simp at hm
      · exact hr0 j a b
      · exact h0 j a b
      · exact h1 j a b
      · exact h2 j a b
      · exact h3 j a b
      · exact hr1 j a hj
  · intro h
    refine ⟨⟨⟨⟨?_, ?_⟩, ?_⟩, ?_⟩, ?_, ?_⟩ <;> intro j h1 h2 <;> refine h j (by omega) ?_ <;>
      interval_cases j <;> decide

/-- The R92 check `areaFields` is the mask of `zeroMask`. -/
theorem areaFields_iff_mask (w : ReqWord) : areaFields w = true ↔ w &&& 0xF000000000F0#48 = 0#48 := by
  simp only [areaFields, reservedZero, fieldCol, fieldRsv0, fieldRsv1,
    Bool.and_eq_true, beq_iff_eq, extract_eq_zero_iff_bits, and_eq_zero_iff]
  constructor
  · rintro ⟨hc, hr0, hr1⟩ j hj hm
    rcases Nat.lt_or_ge j 4 with h | h
    · interval_cases j <;> simp at hm
    · refine bit_of_fields (fun a => ?_) (fun a b => ?_) (fun a b => ?_) (fun a b => ?_)
        (fun a b => ?_) (fun a b => ?_) (fun a => ?_)
      · exact hc j h a
      · exact hr0 j a b
      · interval_cases j <;> simp at hm
      · interval_cases j <;> simp at hm
      · interval_cases j <;> simp at hm
      · interval_cases j <;> simp at hm
      · exact hr1 j a hj
  · intro h
    refine ⟨?_, ?_, ?_⟩ <;> intro j h1 h2 <;> refine h j (by omega) ?_ <;>
      interval_cases j <;> decide

/-- The R92 check `counterFields` is the mask of `zeroMask`. -/
theorem counterFields_iff_mask (w : ReqWord) : counterFields w = true ↔ w &&& 0xFFFFFC0000F0#48 = 0#48 := by
  simp only [counterFields, reservedZero, fieldCol, fieldRsv0, fieldA2, fieldA3, fieldRsv1,
    Bool.and_eq_true, beq_iff_eq, extract_eq_zero_iff_bits, and_eq_zero_iff]
  constructor
  · rintro ⟨⟨⟨hc, h2⟩, h3⟩, hr0, hr1⟩ j hj hm
    rcases Nat.lt_or_ge j 4 with h | h
    · interval_cases j <;> simp at hm
    · refine bit_of_fields (fun a => ?_) (fun a b => ?_) (fun a b => ?_) (fun a b => ?_)
        (fun a b => ?_) (fun a b => ?_) (fun a => ?_)
      · exact hc j h a
      · exact hr0 j a b
      · interval_cases j <;> simp at hm
      · interval_cases j <;> simp at hm
      · exact h2 j a b
      · exact h3 j a b
      · exact hr1 j a hj
  · intro h
    refine ⟨⟨⟨?_, ?_⟩, ?_⟩, ?_, ?_⟩ <;> intro j h1 h2 <;> refine h j (by omega) ?_ <;>
      interval_cases j <;> decide

/-! ## What the decoder gives for each value of OP (R91, R98) -/

variable {r : Request}

theorem decodeRequest_init (h : fieldOp r.word = 0x0#4) :
    decodeRequest r = checkedAs (plainFields r.word) r.word .init := by
  simp [decodeRequest, h]

theorem decodeRequest_wake (h : fieldOp r.word = 0x1#4) :
    decodeRequest r = checkedAs (plainFields r.word) r.word .wake := by
  simp [decodeRequest, h]

theorem decodeRequest_sleep (h : fieldOp r.word = 0x2#4) :
    decodeRequest r = checkedAs (plainFields r.word) r.word .sleep := by
  simp [decodeRequest, h]

theorem decodeRequest_updateFrame (h : fieldOp r.word = 0x3#4) :
    decodeRequest r = checkedAs (plainFields r.word) r.word (.updateFrame r.planeA) := by
  simp [decodeRequest, h]

theorem decodeRequest_updateColorFrame (h : fieldOp r.word = 0x4#4) :
    decodeRequest r = checkedAs (plainFields r.word) r.word (.updateColorFrame r.planeA r.planeC) := by
  simp [decodeRequest, h]

theorem decodeRequest_displayFrame (h : fieldOp r.word = 0x5#4) :
    decodeRequest r = checkedAs (plainFields r.word) r.word .displayFrame := by
  simp [decodeRequest, h]

theorem decodeRequest_updateAndDisplayFrame (h : fieldOp r.word = 0x6#4) :
    decodeRequest r = checkedAs (plainFields r.word) r.word (.updateAndDisplayFrame r.planeA) := by
  simp [decodeRequest, h]

theorem decodeRequest_clearFrame (h : fieldOp r.word = 0x7#4) :
    decodeRequest r = checkedAs (plainFields r.word) r.word .clearFrame := by
  simp [decodeRequest, h]

theorem decodeRequest_useFullFrame (h : fieldOp r.word = 0xB#4) :
    decodeRequest r = checkedAs (plainFields r.word) r.word .useFullFrame := by
  simp [decodeRequest, h]

theorem decodeRequest_setBackground (h : fieldOp r.word = 0x8#4) :
    decodeRequest r = match colorOfCode (fieldCol r.word) with
      | some c => checkedAs (backgroundFields r.word) r.word (.setBackground c)
      | none => .illegal r.word := by
  simp only [decodeRequest, h]; rfl

theorem decodeRequest_setRamArea (h : fieldOp r.word = 0x9#4) :
    decodeRequest r = checkedAs (areaFields r.word) r.word
      (.setRamArea (fieldA0 r.word) (fieldA1 r.word) (fieldA2 r.word) (fieldA3 r.word)) := by
  simp [decodeRequest, h]

theorem decodeRequest_setRamCounter (h : fieldOp r.word = 0xA#4) :
    decodeRequest r = checkedAs (counterFields r.word) r.word
      (.setRamCounter (fieldA0 r.word) (fieldA1 r.word)) := by
  simp [decodeRequest, h]

theorem decodeRequest_updatePartialFrame (h : fieldOp r.word = 0xC#4) :
    decodeRequest r = .updatePartialFrame := by
  simp [decodeRequest, h]

theorem decodeRequest_setLut (h : fieldOp r.word = 0xD#4) : decodeRequest r = .setLut := by
  simp [decodeRequest, h]

theorem decodeRequest_unassigned (h : fieldOp r.word = 0xE#4 ∨ fieldOp r.word = 0xF#4) :
    decodeRequest r = .illegal r.word := by
  rcases h with h | h <;> simp [decodeRequest, h]

/-- An illegal instruction of the decoder carries the word it was decoded from. -/
theorem decodeRequest_illegal_self {w : ReqWord} (h : decodeRequest r = .illegal w) :
    w = r.word := by
  unfold decodeRequest at h
  repeat' split at h
  all_goals try (unfold checkedAs at h; split at h)
  all_goals first | exact (Instr.illegal.inj h).symm | cases h

/-- The sixteen values of OP. -/
theorem fieldOp_cases (b : BitVec 4) :
    b = 0x0#4 ∨ b = 0x1#4 ∨ b = 0x2#4 ∨ b = 0x3#4 ∨ b = 0x4#4 ∨ b = 0x5#4 ∨ b = 0x6#4 ∨ b = 0x7#4 ∨
    b = 0x8#4 ∨ b = 0x9#4 ∨ b = 0xA#4 ∨ b = 0xB#4 ∨ b = 0xC#4 ∨ b = 0xD#4 ∨ b = 0xE#4 ∨ b = 0xF#4 := by
  revert b; decide

/-- The colour codes and the reserved one. -/
theorem colorOfCode_cases (b : BitVec 2) :
    (b = 0#2 ∧ colorOfCode b = some .white) ∨ (b = 1#2 ∧ colorOfCode b = some .black) ∨
    (b = 2#2 ∧ colorOfCode b = some .chromatic) ∨ (b = 3#2 ∧ colorOfCode b = none) := by
  revert b; decide

@[simp] theorem colorOfCode_code (c : Color) : colorOfCode c.code = some c := by cases c <;> rfl

/-! ## Panel commands -/

@[simp] theorem encode_panelInstr (p : PanelOp) :
    encode (panelInstr p) = .command (Config.opc p) := by cases p <;> rfl

@[simp] theorem panelOpOf_panelInstr (p : PanelOp) : panelOpOf (panelInstr p) = some p := by
  cases p <;> rfl

theorem PanelOp.mem_all (p : PanelOp) : p ∈ PanelOp.all := by cases p <;> decide

end Sys2Proof
end

