-- ==== Sys2Proof/Laws/Operands.lean ====
section
/-! SUPPORT. The payload functions and checks in arithmetic. -/

namespace Sys2Proof.Machine

theorem lo8_eq (v : Coord) : lo8 v = BitVec.ofNat 8 (v.toNat % 256) := by
  apply BitVec.eq_of_toNat_eq
  simp [lo8]

theorem hi1_eq (v : Coord) : hi1 v = BitVec.ofNat 8 (v.toNat / 256) := by
  apply BitVec.eq_of_toNat_eq
  simp [hi1, Nat.shiftRight_eq_div_pow]
  omega

theorem xByte_eq (x : Coord) : xByte x = BitVec.ofNat 8 (x.toNat / 8) := by
  apply BitVec.eq_of_toNat_eq
  simp [xByte, Nat.shiftRight_eq_div_pow]

theorem lo8_toNat (v : Coord) : (lo8 v).toNat = v.toNat % 256 := by simp [lo8_eq]

theorem hi1_toNat (v : Coord) : (hi1 v).toNat = v.toNat / 256 := by
  have := v.isLt
  simp [hi1_eq]
  omega

theorem xByte_toNat (x : Coord) : (xByte x).toNat = x.toNat / 8 := by
  have := x.isLt
  simp [xByte_eq]
  omega

theorem windowOk_iff (sx sy ex ey : Coord) :
    windowOk sx sy ex ey = true ↔ sx.toNat < ex.toNat ∧ sy.toNat < ey.toNat := by
  simp [windowOk, BitVec.ult]

theorem planeOk_iff (p : List Byte) : planeOk p = true ↔ p.length = 5000 := by
  simp [planeOk, Config.planeBytes, Config.width, Config.height]

end Sys2Proof.Machine
end

