-- ==== Sys2Proof/Laws/State.lean ====
section
/-! SUPPORT. One lemma per field of State per named update, so that no proof unfolds a record update;
the same for the updates of the inputs. -/

namespace Sys2Proof.Machine

variable (s : State)

@[simp] theorem State.withEnv_state (e : Env) : (s.withEnv e).state = s.state := rfl
@[simp] theorem State.withEnv_bg (e : Env) : (s.withEnv e).bg = s.bg := rfl
@[simp] theorem State.withEnv_seqPc (e : Env) : (s.withEnv e).seqPc = s.seqPc := rfl
@[simp] theorem State.withEnv_curReq (e : Env) : (s.withEnv e).curReq = s.curReq := rfl
@[simp] theorem State.withEnv_script (e : Env) : (s.withEnv e).script = s.script := rfl
@[simp] theorem State.withEnv_retState (e : Env) : (s.withEnv e).retState = s.retState := rfl
@[simp] theorem State.withEnv_lastRsp (e : Env) : (s.withEnv e).lastRsp = s.lastRsp := rfl
@[simp] theorem State.withEnv_faultCause (e : Env) : (s.withEnv e).faultCause = s.faultCause := rfl
@[simp] theorem State.withEnv_busyTimeoutEn (e : Env) : (s.withEnv e).busyTimeoutEn = s.busyTimeoutEn := rfl
@[simp] theorem State.withEnv_panelRst (e : Env) : (s.withEnv e).panelRst = s.panelRst := rfl
@[simp] theorem State.withEnv_trace (e : Env) : (s.withEnv e).trace = s.trace := rfl
@[simp] theorem State.withEnv_responses (e : Env) : (s.withEnv e).responses = s.responses := rfl
@[simp] theorem State.withEnv_cutOff (e : Env) : (s.withEnv e).cutOff = s.cutOff := rfl
@[simp] theorem State.withEnv_env (e : Env) : (s.withEnv e).env = e := rfl

@[simp] theorem State.emit_state (e : Event) : (s.emit e).state = s.state := rfl
@[simp] theorem State.emit_bg (e : Event) : (s.emit e).bg = s.bg := rfl
@[simp] theorem State.emit_seqPc (e : Event) : (s.emit e).seqPc = s.seqPc := rfl
@[simp] theorem State.emit_curReq (e : Event) : (s.emit e).curReq = s.curReq := rfl
@[simp] theorem State.emit_script (e : Event) : (s.emit e).script = s.script := rfl
@[simp] theorem State.emit_retState (e : Event) : (s.emit e).retState = s.retState := rfl
@[simp] theorem State.emit_lastRsp (e : Event) : (s.emit e).lastRsp = s.lastRsp := rfl
@[simp] theorem State.emit_faultCause (e : Event) : (s.emit e).faultCause = s.faultCause := rfl
@[simp] theorem State.emit_busyTimeoutEn (e : Event) : (s.emit e).busyTimeoutEn = s.busyTimeoutEn := rfl
@[simp] theorem State.emit_panelRst (e : Event) : (s.emit e).panelRst = s.panelRst := rfl
@[simp] theorem State.emit_trace (e : Event) : (s.emit e).trace = s.trace ++ [e] := rfl
@[simp] theorem State.emit_responses (e : Event) : (s.emit e).responses = s.responses := rfl
@[simp] theorem State.emit_cutOff (e : Event) : (s.emit e).cutOff = s.cutOff := rfl
@[simp] theorem State.emit_env (e : Event) : (s.emit e).env = s.env := rfl

@[simp] theorem State.advance_state : s.advance.state = s.state := rfl
@[simp] theorem State.advance_bg : s.advance.bg = s.bg := rfl
@[simp] theorem State.advance_seqPc : s.advance.seqPc = s.seqPc + 1 := rfl
@[simp] theorem State.advance_curReq : s.advance.curReq = s.curReq := rfl
@[simp] theorem State.advance_script : s.advance.script = s.script := rfl
@[simp] theorem State.advance_retState : s.advance.retState = s.retState := rfl
@[simp] theorem State.advance_lastRsp : s.advance.lastRsp = s.lastRsp := rfl
@[simp] theorem State.advance_faultCause : s.advance.faultCause = s.faultCause := rfl
@[simp] theorem State.advance_busyTimeoutEn : s.advance.busyTimeoutEn = s.busyTimeoutEn := rfl
@[simp] theorem State.advance_panelRst : s.advance.panelRst = s.panelRst := rfl
@[simp] theorem State.advance_trace : s.advance.trace = s.trace := rfl
@[simp] theorem State.advance_responses : s.advance.responses = s.responses := rfl
@[simp] theorem State.advance_cutOff : s.advance.cutOff = s.cutOff := rfl
@[simp] theorem State.advance_env : s.advance.env = s.env := rfl

@[simp] theorem State.respond_state (c : Rsp) : (s.respond c).state = s.state := rfl
@[simp] theorem State.respond_bg (c : Rsp) : (s.respond c).bg = s.bg := rfl
@[simp] theorem State.respond_seqPc (c : Rsp) : (s.respond c).seqPc = s.seqPc := rfl
@[simp] theorem State.respond_curReq (c : Rsp) : (s.respond c).curReq = s.curReq := rfl
@[simp] theorem State.respond_script (c : Rsp) : (s.respond c).script = s.script := rfl
@[simp] theorem State.respond_retState (c : Rsp) : (s.respond c).retState = s.retState := rfl
@[simp] theorem State.respond_lastRsp (c : Rsp) : (s.respond c).lastRsp = c := rfl
@[simp] theorem State.respond_faultCause (c : Rsp) : (s.respond c).faultCause = s.faultCause := rfl
@[simp] theorem State.respond_busyTimeoutEn (c : Rsp) : (s.respond c).busyTimeoutEn = s.busyTimeoutEn := rfl
@[simp] theorem State.respond_panelRst (c : Rsp) : (s.respond c).panelRst = s.panelRst := rfl
@[simp] theorem State.respond_trace (c : Rsp) : (s.respond c).trace = s.trace := rfl
@[simp] theorem State.respond_responses (c : Rsp) : (s.respond c).responses = s.responses ++ [c] := rfl
@[simp] theorem State.respond_cutOff (c : Rsp) : (s.respond c).cutOff = s.cutOff := rfl
@[simp] theorem State.respond_env (c : Rsp) : (s.respond c).env = s.env := rfl

@[simp] theorem State.enterFault_state (e : ProgError) : (s.enterFault e).state = .fault := rfl
@[simp] theorem State.enterFault_bg (e : ProgError) : (s.enterFault e).bg = s.bg := rfl
@[simp] theorem State.enterFault_seqPc (e : ProgError) : (s.enterFault e).seqPc = s.seqPc := rfl
@[simp] theorem State.enterFault_curReq (e : ProgError) : (s.enterFault e).curReq = s.curReq := rfl
@[simp] theorem State.enterFault_script (e : ProgError) : (s.enterFault e).script = s.script := rfl
@[simp] theorem State.enterFault_retState (e : ProgError) : (s.enterFault e).retState = s.retState := rfl
@[simp] theorem State.enterFault_lastRsp (e : ProgError) : (s.enterFault e).lastRsp = s.lastRsp := rfl
@[simp] theorem State.enterFault_faultCause (e : ProgError) : (s.enterFault e).faultCause = some e := rfl
@[simp] theorem State.enterFault_busyTimeoutEn (e : ProgError) : (s.enterFault e).busyTimeoutEn = s.busyTimeoutEn := rfl
@[simp] theorem State.enterFault_panelRst (e : ProgError) : (s.enterFault e).panelRst = s.panelRst := rfl
@[simp] theorem State.enterFault_trace (e : ProgError) : (s.enterFault e).trace = s.trace := rfl
@[simp] theorem State.enterFault_responses (e : ProgError) : (s.enterFault e).responses = s.responses := rfl
@[simp] theorem State.enterFault_cutOff (e : ProgError) : (s.enterFault e).cutOff = s.cutOff := rfl
@[simp] theorem State.enterFault_env (e : ProgError) : (s.enterFault e).env = s.env := rfl

@[simp] theorem State.abandon_state : s.abandon.state = .uninit := rfl
@[simp] theorem State.abandon_bg : s.abandon.bg = s.bg := rfl
@[simp] theorem State.abandon_seqPc : s.abandon.seqPc = 0 := rfl
@[simp] theorem State.abandon_curReq : s.abandon.curReq = s.curReq := rfl
@[simp] theorem State.abandon_script : s.abandon.script = s.script := rfl
@[simp] theorem State.abandon_retState : s.abandon.retState = s.retState := rfl
@[simp] theorem State.abandon_lastRsp : s.abandon.lastRsp = s.lastRsp := rfl
@[simp] theorem State.abandon_faultCause : s.abandon.faultCause = s.faultCause := rfl
@[simp] theorem State.abandon_busyTimeoutEn : s.abandon.busyTimeoutEn = s.busyTimeoutEn := rfl
@[simp] theorem State.abandon_panelRst : s.abandon.panelRst = s.panelRst := rfl
@[simp] theorem State.abandon_trace : s.abandon.trace = s.trace := rfl
@[simp] theorem State.abandon_responses : s.abandon.responses = s.responses := rfl
@[simp] theorem State.abandon_cutOff : s.abandon.cutOff = s.cutOff := rfl
@[simp] theorem State.abandon_env : s.abandon.env = s.env := rfl

@[simp] theorem State.complete_state : s.complete.state = s.retState := rfl
@[simp] theorem State.complete_bg : s.complete.bg = s.bg := rfl
@[simp] theorem State.complete_seqPc : s.complete.seqPc = 0 := rfl
@[simp] theorem State.complete_curReq : s.complete.curReq = s.curReq := rfl
@[simp] theorem State.complete_script : s.complete.script = s.script := rfl
@[simp] theorem State.complete_retState : s.complete.retState = s.retState := rfl
@[simp] theorem State.complete_lastRsp : s.complete.lastRsp = .ok := rfl
@[simp] theorem State.complete_faultCause : s.complete.faultCause = s.faultCause := rfl
@[simp] theorem State.complete_busyTimeoutEn : s.complete.busyTimeoutEn = s.busyTimeoutEn := rfl
@[simp] theorem State.complete_panelRst : s.complete.panelRst = s.panelRst := rfl
@[simp] theorem State.complete_trace : s.complete.trace = s.trace := rfl
@[simp] theorem State.complete_responses : s.complete.responses = s.responses ++ [.ok] := rfl
@[simp] theorem State.complete_cutOff : s.complete.cutOff = s.cutOff := rfl
@[simp] theorem State.complete_env : s.complete.env = s.env := rfl

@[simp] theorem State.offer_state (r : Request) : (s.offer r).state = s.state := rfl
@[simp] theorem State.offer_bg (r : Request) : (s.offer r).bg = s.bg := rfl
@[simp] theorem State.offer_seqPc (r : Request) : (s.offer r).seqPc = s.seqPc := rfl
@[simp] theorem State.offer_curReq (r : Request) : (s.offer r).curReq = s.curReq := rfl
@[simp] theorem State.offer_script (r : Request) : (s.offer r).script = s.script := rfl
@[simp] theorem State.offer_retState (r : Request) : (s.offer r).retState = s.retState := rfl
@[simp] theorem State.offer_lastRsp (r : Request) : (s.offer r).lastRsp = s.lastRsp := rfl
@[simp] theorem State.offer_faultCause (r : Request) : (s.offer r).faultCause = s.faultCause := rfl
@[simp] theorem State.offer_busyTimeoutEn (r : Request) : (s.offer r).busyTimeoutEn = s.busyTimeoutEn := rfl
@[simp] theorem State.offer_panelRst (r : Request) : (s.offer r).panelRst = s.panelRst := rfl
@[simp] theorem State.offer_trace (r : Request) : (s.offer r).trace = s.trace := rfl
@[simp] theorem State.offer_responses (r : Request) : (s.offer r).responses = s.responses := rfl
@[simp] theorem State.offer_cutOff (r : Request) : (s.offer r).cutOff = s.cutOff := rfl
@[simp] theorem State.offer_env (r : Request) : (s.offer r).env = { s.env with reqs := s.env.reqs ++ [r] } := rfl

@[simp] theorem loadScript_state (r : Instr) : (loadScript r s).state = execState r := rfl
@[simp] theorem loadScript_bg (r : Instr) : (loadScript r s).bg = s.bg := rfl
@[simp] theorem loadScript_seqPc (r : Instr) : (loadScript r s).seqPc = 0 := rfl
@[simp] theorem loadScript_curReq (r : Instr) : (loadScript r s).curReq = r := rfl
@[simp] theorem loadScript_script (r : Instr) : (loadScript r s).script = scriptOf r s.bg := rfl
@[simp] theorem loadScript_retState (r : Instr) : (loadScript r s).retState = retStateOf r := rfl
@[simp] theorem loadScript_lastRsp (r : Instr) : (loadScript r s).lastRsp = s.lastRsp := rfl
@[simp] theorem loadScript_faultCause (r : Instr) : (loadScript r s).faultCause = s.faultCause := rfl
@[simp] theorem loadScript_busyTimeoutEn (r : Instr) : (loadScript r s).busyTimeoutEn = s.busyTimeoutEn := rfl
@[simp] theorem loadScript_panelRst (r : Instr) : (loadScript r s).panelRst = s.panelRst := rfl
@[simp] theorem loadScript_trace (r : Instr) : (loadScript r s).trace = s.trace := rfl
@[simp] theorem loadScript_responses (r : Instr) : (loadScript r s).responses = s.responses := rfl
@[simp] theorem loadScript_cutOff (r : Instr) : (loadScript r s).cutOff = s.cutOff := rfl
@[simp] theorem loadScript_env (r : Instr) : (loadScript r s).env = s.env := rfl

@[simp] theorem blockReset_state : (blockReset s).state = .uninit := rfl
@[simp] theorem blockReset_bg : (blockReset s).bg = .white := rfl
@[simp] theorem blockReset_seqPc : (blockReset s).seqPc = 0 := rfl
@[simp] theorem blockReset_curReq : (blockReset s).curReq = .init := rfl
@[simp] theorem blockReset_script : (blockReset s).script = [] := rfl
@[simp] theorem blockReset_retState : (blockReset s).retState = .uninit := rfl
@[simp] theorem blockReset_lastRsp : (blockReset s).lastRsp = .none := rfl
@[simp] theorem blockReset_faultCause : (blockReset s).faultCause = none := rfl
@[simp] theorem blockReset_busyTimeoutEn : (blockReset s).busyTimeoutEn = s.busyTimeoutEn := rfl
@[simp] theorem blockReset_panelRst : (blockReset s).panelRst = true := rfl
@[simp] theorem blockReset_trace : (blockReset s).trace = s.trace ++ [.breset] := rfl
@[simp] theorem blockReset_responses : (blockReset s).responses = s.responses := rfl
@[simp] theorem blockReset_cutOff : (blockReset s).cutOff = s.cutOff ++ [s.inProgress] := rfl
@[simp] theorem blockReset_env : (blockReset s).env = s.env := rfl

@[simp] theorem State.withEnv_withEnv (e e' : Env) : (s.withEnv e).withEnv e' = s.withEnv e' := rfl

variable (e : Env)

@[simp] theorem Env.popRst_reqs : e.popRst.reqs = e.reqs := rfl
@[simp] theorem Env.popRst_rstIn : e.popRst.rstIn = e.rstIn.tail := rfl
@[simp] theorem Env.popRst_busyIn : e.popRst.busyIn = e.busyIn := rfl
@[simp] theorem Env.popRst_txIn : e.popRst.txIn = e.txIn := rfl
@[simp] theorem Env.popRst_timeoutIn : e.popRst.timeoutIn = e.timeoutIn := rfl
@[simp] theorem Env.popRst_draws : e.popRst.draws = e.draws := rfl

@[simp] theorem Env.popReq_reqs : e.popReq.reqs = e.reqs.tail := rfl
@[simp] theorem Env.popReq_rstIn : e.popReq.rstIn = e.rstIn := rfl
@[simp] theorem Env.popReq_busyIn : e.popReq.busyIn = e.busyIn := rfl
@[simp] theorem Env.popReq_txIn : e.popReq.txIn = e.txIn := rfl
@[simp] theorem Env.popReq_timeoutIn : e.popReq.timeoutIn = e.timeoutIn := rfl
@[simp] theorem Env.popReq_draws : e.popReq.draws = e.draws := rfl

@[simp] theorem Env.popBusy_reqs : e.popBusy.reqs = e.reqs := by
  unfold Env.popBusy; split <;> simp_all
@[simp] theorem Env.popBusy_rstIn : e.popBusy.rstIn = e.rstIn := by
  unfold Env.popBusy; split <;> simp_all
@[simp] theorem Env.popBusy_busyIn : e.popBusy.busyIn = e.busyIn.tail := by
  unfold Env.popBusy; split <;> simp_all
@[simp] theorem Env.popBusy_txIn : e.popBusy.txIn = e.txIn := by
  unfold Env.popBusy; split <;> simp_all
@[simp] theorem Env.popBusy_timeoutIn : e.popBusy.timeoutIn = e.timeoutIn := by
  unfold Env.popBusy; split <;> simp_all

@[simp] theorem Env.popTx_reqs : e.popTx.reqs = e.reqs := by
  unfold Env.popTx; split <;> simp_all
@[simp] theorem Env.popTx_rstIn : e.popTx.rstIn = e.rstIn := by
  unfold Env.popTx; split <;> simp_all
@[simp] theorem Env.popTx_busyIn : e.popTx.busyIn = e.busyIn := by
  unfold Env.popTx; split <;> simp_all
@[simp] theorem Env.popTx_txIn : e.popTx.txIn = e.txIn.tail := by
  unfold Env.popTx; split <;> simp_all
@[simp] theorem Env.popTx_timeoutIn : e.popTx.timeoutIn = e.timeoutIn := by
  unfold Env.popTx; split <;> simp_all

@[simp] theorem Env.popTimeout_reqs : e.popTimeout.reqs = e.reqs := by
  unfold Env.popTimeout; split <;> simp_all
@[simp] theorem Env.popTimeout_rstIn : e.popTimeout.rstIn = e.rstIn := by
  unfold Env.popTimeout; split <;> simp_all
@[simp] theorem Env.popTimeout_busyIn : e.popTimeout.busyIn = e.busyIn := by
  unfold Env.popTimeout; split <;> simp_all
@[simp] theorem Env.popTimeout_txIn : e.popTimeout.txIn = e.txIn := by
  unfold Env.popTimeout; split <;> simp_all
@[simp] theorem Env.popTimeout_timeoutIn : e.popTimeout.timeoutIn = e.timeoutIn.tail := by
  unfold Env.popTimeout; split <;> simp_all

end Sys2Proof.Machine
end

