-- ==== Sys2Proof/Laws/Ops.lean ====
section
/-! SUPPORT. One lemma per shared operation that says all it can do. -/

namespace Sys2Proof.Machine

/-! ## Configuration -/

theorem cbWhite_ne_cbBlack : Config.cbWhite ≠ Config.cbBlack := by
  intro h
  have hlt := Config.cbBlackOffset.isLt
  have ht := congrArg BitVec.toNat h
  have hw := Config.cbWhite.isLt
  simp only [Config.cbBlack, BitVec.toNat_add, BitVec.toNat_ofNat] at ht
  omega

/-! ## Inputs -/

@[simp] theorem Env.rstAsserted_eq (e : Env) : e.rstAsserted = e.rstIn.headD false := rfl

@[simp] theorem Env.offered_eq (e : Env) : e.offered = e.reqs.head? := rfl

theorem Env.busyLevel_cons {e : Env} {l : Bool} {ls : List Bool} (h : e.busyIn = l :: ls) :
    e.busyLevel = l := by simp [Env.busyLevel, h]

theorem Env.txOutcome_cons {e : Env} {o : TxOutcome} {os : List TxOutcome} (h : e.txIn = o :: os) :
    e.txOutcome = o := by simp [Env.txOutcome, h]

theorem Env.timeoutFires_cons {e : Env} {t : Bool} {ts : List Bool} (h : e.timeoutIn = t :: ts) :
    e.timeoutFires = t := by simp [Env.timeoutFires, h]

/-- `rst_n` and `req` play no part in the other draws. -/
@[simp] theorem Env.popRst_busyLevel (e : Env) : e.popRst.busyLevel = e.busyLevel := rfl
@[simp] theorem Env.popRst_txOutcome (e : Env) : e.popRst.txOutcome = e.txOutcome := rfl
@[simp] theorem Env.popRst_timeoutFires (e : Env) : e.popRst.timeoutFires = e.timeoutFires := rfl

/-- The timeout's draw after the sample's, with the reset list used up or not. -/
@[simp] theorem Env.popRst_popBusy_timeoutFires (e : Env) :
    e.popRst.popBusy.timeoutFires = e.popBusy.timeoutFires := by
  rcases e with ⟨q, r, b, x, t, d⟩
  cases b <;> rfl

/-! ## Registers' functions -/

@[simp] theorem execState_executes (r : Instr) : (execState r).executes = true := by
  cases r <;> rfl

@[simp] theorem retStateOf_executes (r : Instr) : (retStateOf r).executes = false := by
  cases r <;> rfl

theorem readsBusy_eq (level : Bool) : readsBusy Config.isBusyLow level = level := by
  cases level <;> rfl

/-! ## Errors -/

@[simp] theorem State.raise_illegal (s : State) : s.raise .illegal = s.respond (.err .illegal) := rfl
@[simp] theorem State.raise_state (s : State) : s.raise .state = s.respond (.err .state) := rfl
@[simp] theorem State.raise_faulted (s : State) : s.raise .faulted = s.respond (.err .faulted) := rfl
@[simp] theorem State.raise_prog (s : State) (p : ProgError) :
    s.raise (.prog p) = (s.enterFault p).respond (.err (.prog p)) := rfl
@[simp] theorem State.raise_transport (s : State) :
    s.raise .transport = s.abandon.respond (.err .transport) := rfl
@[simp] theorem State.raise_timeout (s : State) :
    s.raise .timeout = s.abandon.respond (.err .timeout) := rfl

/-! ## Taking a request -/

theorem takeRequest_of_ready {k : State → State} {s : State} (hr : s.state.executes = false)
    (hf : s.state ≠ .fault) : takeRequest k s = .next (k s) := by
  cases h : s.state <;> simp_all [takeRequest, FsmState.executes]

theorem takeRequest_of_fault {k : State → State} {s : State} (hf : s.state = .fault) :
    takeRequest k s = .next (s.raise .faulted) := by simp [takeRequest, hf]

theorem takeRequest_of_executes {k : State → State} {s : State} (he : s.state.executes = true) :
    takeRequest k s = .next s := by
  cases h : s.state <;> simp_all [takeRequest, FsmState.executes]

/-- A request is not taken, is answered ERR_FAULTED, or is decided by what follows check 1; it never
stops the machine. -/
theorem takeRequest_cases (k : State → State) (s : State) :
    (s.state.executes = true ∧ takeRequest k s = .next s) ∨
    (s.state = .fault ∧ takeRequest k s = .next (s.raise .faulted)) ∨
    (s.state.executes = false ∧ s.state ≠ .fault ∧ takeRequest k s = .next (k s)) := by
  cases h : s.state <;> simp [takeRequest, h, FsmState.executes]

theorem acceptsWork_iff {x : FsmState} : x.acceptsWork = true ↔ x = .idle := by
  cases x <;> simp [FsmState.acceptsWork]

/-- In a ready state other than FAULT, INIT and its like are always accepted. -/
theorem acceptsInit_of_ready {x : FsmState} (hr : x.executes = false) (hf : x ≠ .fault) :
    x.acceptsInit = true := by
  cases x <;> simp_all [FsmState.acceptsInit, FsmState.executes]

/-! ## Performing steps -/

theorem performTx_ok {t : Tx} {s : State} (h : s.env.txOutcome = .ok) :
    performTx t s = .next ((s.withEnv s.env.popTx).emit (.tx t)).advance := by
  simp [performTx, h]

theorem performTx_err {t : Tx} {s : State} (h : s.env.txOutcome = .err) :
    performTx t s = .next (((s.withEnv s.env.popTx).emit (.txfail t)).raise .transport) := by
  simp [performTx, h]

theorem performWait_idle {s : State} (h : s.env.busyLevel = false) :
    performWait s = .next ((s.withEnv s.env.popBusy).emit .wait).advance := by
  simp [performWait, readsBusy_eq, h]

theorem performWait_hold {s : State} (h : s.env.busyLevel = true) (ht : s.busyTimeoutEn = false) :
    performWait s = .next (s.withEnv s.env.popBusy) := by
  simp [performWait, readsBusy_eq, h, ht]

/-- With the opt-in timeout, a busy sample ends the request or holds, as the draw says. -/
theorem performWait_busy_en {s : State} (h : s.env.busyLevel = true) (ht : s.busyTimeoutEn = true) :
    performWait s = if s.env.popBusy.timeoutFires then
        .next (((s.withEnv s.env.popBusy.popTimeout).emit .timeout).raise .timeout)
      else .next (s.withEnv s.env.popBusy.popTimeout) := by
  simp [performWait, readsBusy_eq, h, ht]

theorem performWait_cases (s : State) :
    performWait s = .next ((s.withEnv s.env.popBusy).emit .wait).advance ∨
    performWait s = .next (s.withEnv s.env.popBusy) ∨
    performWait s = .next (s.withEnv s.env.popBusy.popTimeout) ∨
    performWait s =
      .next (((s.withEnv s.env.popBusy.popTimeout).emit .timeout).raise .timeout) := by
  cases hb : s.env.busyLevel
  · exact .inl (performWait_idle hb)
  · cases ht : s.busyTimeoutEn
    · exact .inr (.inl (performWait_hold hb ht))
    · rw [performWait_busy_en hb ht]
      cases s.env.popBusy.timeoutFires
      · exact .inr (.inr (.inl rfl))
      · exact .inr (.inr (.inr rfl))

theorem finish_at_end {s : State} (h : s.seqPc = s.script.length) : finish s = .next s.complete := by
  simp [finish, h]

/-! ## Block reset -/

@[simp] theorem State.withEnv_inProgress (s : State) (e : Env) :
    (s.withEnv e).inProgress = s.inProgress := rfl

theorem State.inProgress_of_tx {s : State} {t : Tx} (he : s.state.executes = true)
    (h : s.currentStep = some (.tx t)) : s.inProgress = some t := by
  simp [State.inProgress, he, h]

/-- What can have reached the panel after a block reset: what could before it, and a prefix of the
transaction cut off. -/
theorem blockReset_panelReceived (s : State) (bs : List WireByte) :
    (blockReset s).panelReceived bs ↔
      ∃ k before, bs = before ++ cutWire k s.inProgress ∧ s.panelReceived before := by
  simp [State.panelReceived, receivedFrom]

end Sys2Proof.Machine
end

