-- ==== Sys2Proof/Laws/PerInstr.lean ====
section
/-! SUPPORT. What is said of every instruction, one lemma per constructor. -/

namespace Sys2Proof.Laws.OpField

/-- 30_encoding.md R91: the value of OP of each request (the illegal word keeps its own, a panel
command has none). -/
def opValue : Instr → Option (BitVec 4)
  | .init => some 0x0#4
  | .wake => some 0x1#4
  | .sleep => some 0x2#4
  | .updateFrame _ => some 0x3#4
  | .updateColorFrame _ _ => some 0x4#4
  | .displayFrame => some 0x5#4
  | .updateAndDisplayFrame _ => some 0x6#4
  | .clearFrame => some 0x7#4
  | .setBackground _ => some 0x8#4
  | .setRamArea _ _ _ _ => some 0x9#4
  | .setRamCounter _ _ => some 0xA#4
  | .useFullFrame => some 0xB#4
  | .updatePartialFrame => some 0xC#4
  | .setLut => some 0xD#4
  | .illegal w => some (w.extractLsb' 0 4)
  | _ => none

/-- The low four bits of a request's word are its OP; a panel command is no request word. -/
def Statement (i : Instr) : Prop :=
  match encode i with
  | .request r => some (fieldOp r.word) = opValue i
  | .command _ => opValue i = none

theorem init : Statement (.init) := congrArg some (fieldOp_assembleWord ..)

theorem wake : Statement (.wake) := congrArg some (fieldOp_assembleWord ..)

theorem sleep : Statement (.sleep) := congrArg some (fieldOp_assembleWord ..)

theorem updateFrame (a : List Byte) : Statement (.updateFrame a) := congrArg some (fieldOp_assembleWord ..)

theorem updateColorFrame (a : List Byte) (c : List Byte) : Statement (.updateColorFrame a c) := congrArg some (fieldOp_assembleWord ..)

theorem displayFrame : Statement (.displayFrame) := congrArg some (fieldOp_assembleWord ..)

theorem updateAndDisplayFrame (a : List Byte) : Statement (.updateAndDisplayFrame a) := congrArg some (fieldOp_assembleWord ..)

theorem clearFrame : Statement (.clearFrame) := congrArg some (fieldOp_assembleWord ..)

theorem setBackground (col : Color) : Statement (.setBackground col) := congrArg some (fieldOp_assembleWord ..)

theorem setRamArea (sx : Coord) (sy : Coord) (ex : Coord) (ey : Coord) : Statement (.setRamArea sx sy ex ey) := congrArg some (fieldOp_assembleWord ..)

theorem setRamCounter (x : Coord) (y : Coord) : Statement (.setRamCounter x y) := congrArg some (fieldOp_assembleWord ..)

theorem useFullFrame : Statement (.useFullFrame) := congrArg some (fieldOp_assembleWord ..)

theorem updatePartialFrame : Statement (.updatePartialFrame) := congrArg some (fieldOp_assembleWord ..)

theorem setLut : Statement (.setLut) := congrArg some (fieldOp_assembleWord ..)

theorem illegal (w : ReqWord) : Statement (.illegal w) := rfl

theorem panelSwReset : Statement .panelSwReset := rfl

theorem panelDriverOutputControl : Statement .panelDriverOutputControl := rfl

theorem panelDataEntryMode : Statement .panelDataEntryMode := rfl

theorem panelRamXWindow : Statement .panelRamXWindow := rfl

theorem panelRamYWindow : Statement .panelRamYWindow := rfl

theorem panelRamXCounter : Statement .panelRamXCounter := rfl

theorem panelRamYCounter : Statement .panelRamYCounter := rfl

theorem panelWriteRam1 : Statement .panelWriteRam1 := rfl

theorem panelWriteRam2 : Statement .panelWriteRam2 := rfl

theorem panelBorderWaveform : Statement .panelBorderWaveform := rfl

theorem panelTempSensorSource : Statement .panelTempSensorSource := rfl

theorem panelTempSensorControl : Statement .panelTempSensorControl := rfl

theorem panelDisplayUpdateControl2 : Statement .panelDisplayUpdateControl2 := rfl

theorem panelMasterActivation : Statement .panelMasterActivation := rfl

theorem panelNop : Statement .panelNop := rfl

theorem panelDeepSleep : Statement .panelDeepSleep := rfl

end Sys2Proof.Laws.OpField
end

