-- ==== Sys2Proof/Laws/Step.lean ====
section
/-! SUPPORT. What the execution of a request can do, and what a step can do. -/

namespace Sys2Proof.Machine

/-- A panel command is the Cmd step. -/
@[simp] theorem exec_panelInstr (p : PanelOp) (s : State) :
    exec (panelInstr p) s = performTx (.cmd p) s := by cases p <;> rfl

/-- Everything a request can do: nothing (a request executes), one answer, a programming error, the
background, or the loading of its script. -/
inductive RequestEffect (i : Instr) (s : State) : State → Prop where
  | notTaken (h : s.state.executes = true) : RequestEffect i s s
  | answered (e : Err) (h : s.state.executes = false)
      (he : (e = .faulted ∧ s.state = .fault) ∨ (s.state ≠ .fault ∧ (e = .illegal ∨ e = .state))) :
      RequestEffect i s (s.respond (.err e))
  | faulted (p : ProgError) (h : s.state.executes = false) (hf : s.state ≠ .fault)
      (hp : p = .unsupported ↔ i = .updatePartialFrame ∨ i = .setLut)
      (hi : p ≠ .unsupported → s.state = .idle) :
      RequestEffect i s ((s.enterFault p).respond (.err (.prog p)))
  | background (c : Color) (h : s.state.executes = false) (hf : s.state ≠ .fault)
      (hi : i = .setBackground c) : RequestEffect i s ({ s with bg := c }.respond .ok)
  | loaded (ha : acceptedIn i s.state = true) (ho : operandsPass i = true) (hs : hasScript i = true) :
      RequestEffect i s (loadScript i s)

theorem takeRequest_effect {i : Instr} {k : State → State} {s t : State}
    (hk : s.state.executes = false → s.state ≠ .fault → RequestEffect i s (k s))
    (h : takeRequest k s = .next t) : RequestEffect i s t := by
  obtain ⟨he, h'⟩ | ⟨hf, h'⟩ | ⟨hr, hf, h'⟩ := takeRequest_cases k s
  · rw [h'] at h; cases h; exact .notTaken he
  · rw [h'] at h; cases h
    exact .answered .faulted (by simp [hf, FsmState.executes]) (.inl ⟨rfl, hf⟩)
  · rw [h'] at h; cases h; exact hk hr hf

theorem ifAccepted_effect {i : Instr} {acc : FsmState → Bool} {k : State → State} {s : State}
    (hr : s.state.executes = false) (hf : s.state ≠ .fault)
    (hk : acc s.state = true → RequestEffect i s (k s)) :
    RequestEffect i s (ifAccepted acc k s) := by
  unfold ifAccepted
  split
  · exact hk ‹_›
  · exact .answered .state hr (.inr ⟨hf, .inr rfl⟩)

theorem ifOperands_effect {i : Instr} {ok : Bool} {e : ProgError} {k : State → State} {s : State}
    (hr : s.state.executes = false) (hf : s.state ≠ .fault) (hi : s.state = .idle)
    (hp : e = .unsupported ↔ i = .updatePartialFrame ∨ i = .setLut)
    (hk : ok = true → RequestEffect i s (k s)) : RequestEffect i s (ifOperands ok e k s) := by
  unfold ifOperands
  split
  · exact hk ‹_›
  · exact .faulted e hr hf hp fun _ => hi

/-- The three requests that are decided by nothing but check 1. -/
theorem exec_updatePartialFrame (s : State) :
    exec .updatePartialFrame s = takeRequest (fun s => s.raise (.prog .unsupported)) s := rfl
theorem exec_setLut (s : State) :
    exec .setLut s = takeRequest (fun s => s.raise (.prog .unsupported)) s := rfl
theorem exec_illegal (w : ReqWord) (s : State) :
    exec (.illegal w) s = takeRequest (fun s => s.raise .illegal) s := rfl

/-- The inversion of `exec` on a request. -/
theorem exec_request_effect {i : Instr} {s t : State} (hi : isRequest i = true)
    (h : exec i s = .next t) : RequestEffect i s t := by
  cases i <;> first
    | (exfalso; revert hi; decide)
    | (first | rw [exec_updatePartialFrame] at h | rw [exec_setLut] at h | rw [exec_illegal] at h
             | skip
       refine takeRequest_effect (fun hr hf => ?_) h
       first
        | exact .answered .illegal hr (.inr ⟨hf, .inl rfl⟩)
        | exact .faulted .unsupported hr hf (by simp) (by simp)
        | (refine ifAccepted_effect hr hf fun ha => ?_
           first
            | exact .background _ hr hf rfl
            | exact .loaded ha rfl rfl
            | (refine ifOperands_effect hr hf (acceptsWork_iff.1 ha) (by simp) fun ho => ?_
               exact .loaded ha ho rfl)))

theorem executes_of_acceptsInit {x : FsmState} (h : x.acceptsInit = true) :
    x.executes = false ∧ x ≠ .fault := by
  cases x <;> simp_all [FsmState.acceptsInit, FsmState.executes]

/-- What acceptance says: the request has a script, and STATE is one that takes it. -/
theorem acceptedIn_iff {i : Instr} {x : FsmState} : acceptedIn i x = true ↔
    hasScript i = true ∧ (if execState i = .initializing then x.acceptsInit else x.acceptsWork) := by
  simp [acceptedIn]

theorem acceptedIn_ready {i : Instr} {x : FsmState} (ha : acceptedIn i x = true) :
    x.executes = false ∧ x ≠ .fault := by
  obtain ⟨_, h⟩ := acceptedIn_iff.1 ha
  split at h
  · exact executes_of_acceptsInit h
  · simp [acceptsWork_iff.1 h, FsmState.executes]

/-- A request that STATE accepts and whose operands pass loads its script (60_exceptions.md R223,
check 7). -/
theorem exec_of_accepted {i : Instr} {s : State} (ha : acceptedIn i s.state = true)
    (ho : operandsPass i = true) : exec i s = .next (loadScript i s) := by
  obtain ⟨hr, hf⟩ := acceptedIn_ready ha
  have plain (acc : FsmState → Bool) (r : Instr) (h : acc s.state = true) :
      takeRequest (ifAccepted acc (loadScript r)) s = .next (loadScript r s) := by
    rw [takeRequest_of_ready hr hf, ifAccepted, if_pos h]
  have checked (ok : Bool) (e : ProgError) (r : Instr) (h : s.state.acceptsWork = true)
      (hok : ok = true) :
      takeRequest (ifAccepted FsmState.acceptsWork (ifOperands ok e (loadScript r))) s =
        .next (loadScript r s) := by
    rw [takeRequest_of_ready hr hf, ifAccepted, if_pos h, ifOperands, if_pos hok]
  cases i with
  | init => exact plain _ _ ha
  | wake => exact plain _ _ ha
  | sleep => exact plain _ _ ha
  | displayFrame => exact plain _ _ ha
  | clearFrame => exact plain _ _ ha
  | setRamCounter x y => exact plain _ _ ha
  | useFullFrame => exact plain _ _ ha
  | updateFrame a => exact checked _ _ _ ha ho
  | updateAndDisplayFrame a => exact checked _ _ _ ha ho
  | updateColorFrame a c => exact checked _ _ _ ha ho
  | setRamArea sx sy ex ey => exact checked _ _ _ ha ho
  | _ => cases ha

/-- IDLE accepts every request with a script. -/
theorem acceptedIn_idle {i : Instr} {x : FsmState} (hs : hasScript i = true) (hx : x = .idle) :
    acceptedIn i x = true := by
  subst hx
  exact acceptedIn_iff.2 ⟨hs, by split <;> rfl⟩

/-- A request is `takeRequest` of what its own checks decide. -/
theorem exec_eq_takeRequest {i : Instr} (hi : isRequest i = true) :
    ∃ k, ∀ s, exec i s = takeRequest k s := by
  cases i with
  | init => exact ⟨_, fun _ => rfl⟩
  | wake => exact ⟨_, fun _ => rfl⟩
  | sleep => exact ⟨_, fun _ => rfl⟩
  | updateFrame _ => exact ⟨_, fun _ => rfl⟩
  | updateColorFrame _ _ => exact ⟨_, fun _ => rfl⟩
  | displayFrame => exact ⟨_, fun _ => rfl⟩
  | updateAndDisplayFrame _ => exact ⟨_, fun _ => rfl⟩
  | clearFrame => exact ⟨_, fun _ => rfl⟩
  | setBackground _ => exact ⟨_, fun _ => rfl⟩
  | setRamArea _ _ _ _ => exact ⟨_, fun _ => rfl⟩
  | setRamCounter _ _ => exact ⟨_, fun _ => rfl⟩
  | useFullFrame => exact ⟨_, fun _ => rfl⟩
  | updatePartialFrame => exact ⟨_, fun _ => rfl⟩
  | setLut => exact ⟨_, fun _ => rfl⟩
  | illegal _ => exact ⟨_, fun _ => rfl⟩
  | _ => cases hi

/-- Check 1 of 60_exceptions.md R223, for every request. -/
theorem exec_of_fault {i : Instr} {s : State} (hi : isRequest i = true) (hf : s.state = .fault) :
    exec i s = .next (s.raise .faulted) := by
  obtain ⟨k, hk⟩ := exec_eq_takeRequest hi
  rw [hk, takeRequest_of_fault hf]

/-- 40_sequencer.md R120: no request is taken while one executes. -/
theorem exec_of_executes {i : Instr} {s : State} (hi : isRequest i = true)
    (he : s.state.executes = true) : exec i s = .next s := by
  obtain ⟨k, hk⟩ := exec_eq_takeRequest hi
  rw [hk, takeRequest_of_executes he]

/-- A request always has an answer of the machine: it never stops it. -/
theorem exec_request_next {i : Instr} (hi : isRequest i = true) (s : State) :
    ∃ t, exec i s = .next t := by
  obtain ⟨k, hk⟩ := exec_eq_takeRequest hi
  rw [hk]
  obtain ⟨_, h⟩ | ⟨_, h⟩ | ⟨_, _, h⟩ := takeRequest_cases k s <;> exact ⟨_, h⟩

/-- What the decoder gives is never a panel command. -/
theorem decodeRequest_isRequest (r : Request) : isRequest (decodeRequest r) = true := by
  unfold decodeRequest
  repeat' split
  all_goals first
    | rfl
    | (unfold checkedAs; split <;> rfl)

/-! ## Which case a step is -/

@[simp] theorem State.withEnv_currentStep (s : State) (e : Env) :
    (s.withEnv e).currentStep = s.currentStep := rfl

theorem step_of_reset {s : State} (h : s.env.rstAsserted = true) :
    step s = .next (blockReset (s.withEnv s.env.popRst)) := by rw [step, if_pos h]

theorem step_of_executes {s : State} (hr : s.env.rstAsserted = false)
    (he : s.state.executes = true) : step s = performCurrent (s.withEnv s.env.popRst) := by
  rw [step, if_neg (by simpa using hr), stepBlock, if_pos (by simpa using he)]

theorem step_of_offer {s : State} {r : Request} {rest : List Request}
    (hr : s.env.rstAsserted = false) (he : s.state.executes = false) (hq : s.env.reqs = r :: rest) :
    step s = exec (decodeRequest r) (s.withEnv s.env.popRst.popReq) := by
  rw [step, if_neg (by simpa using hr), stepBlock, if_neg (by simpa using he)]
  simp [takeOffered, hq]

theorem step_of_nothing {s : State} (hr : s.env.rstAsserted = false)
    (he : s.state.executes = false) (hq : s.env.reqs = []) :
    step s = .next (s.withEnv s.env.popRst) := by
  rw [step, if_neg (by simpa using hr), stepBlock, if_neg (by simpa using he)]
  simp [takeOffered, hq]

theorem performCurrent_rst {s : State} {tl th : Nat} (h : s.currentStep = some (.rst tl th)) :
    performCurrent s = performRst tl th s := by rw [performCurrent, h]

theorem performCurrent_wait {s : State} (h : s.currentStep = some .wait) :
    performCurrent s = performWait s := by rw [performCurrent, h]

theorem performCurrent_tx {s : State} {t : Tx} (h : s.currentStep = some (.tx t)) :
    performCurrent s = performTx t s := by
  unfold performCurrent
  rw [h]
  cases t <;> simp

theorem performCurrent_end {s : State} (h : s.seqPc = s.script.length) :
    performCurrent s = .next s.complete := by
  have hn : s.currentStep = none := by simp [State.currentStep, h]
  unfold performCurrent
  rw [hn]
  exact finish_at_end h

/-- Everything a step of an executing block can do, `rst_n` deasserted. -/
inductive ScriptEffect (s : State) : State → Prop where
  | rst (tl th : Nat) (h : s.currentStep = some (.rst tl th)) :
      ScriptEffect s ({ s with panelRst := true }.emit (.rst tl th)).advance
  | waited (h : s.currentStep = some .wait) :
      ScriptEffect s ((s.withEnv s.env.popBusy).emit .wait).advance
  | held (e : Env) (h : s.currentStep = some .wait) (he : e.reqs = s.env.reqs) :
      ScriptEffect s (s.withEnv e)
  | timedOut (h : s.currentStep = some .wait) :
      ScriptEffect s
        (((s.withEnv s.env.popBusy.popTimeout).emit .timeout).abandon.respond (.err .timeout))
  | sent (t : Tx) (h : s.currentStep = some (.tx t)) :
      ScriptEffect s ((s.withEnv s.env.popTx).emit (.tx t)).advance
  | failed (t : Tx) (h : s.currentStep = some (.tx t)) :
      ScriptEffect s
        (((s.withEnv s.env.popTx).emit (.txfail t)).abandon.respond (.err .transport))
  | completed (h : s.seqPc = s.script.length) : ScriptEffect s s.complete

theorem performTx_effect {t : Tx} {s u : State} (hc : s.currentStep = some (.tx t))
    (h : performTx t s = .next u) : ScriptEffect s u := by
  cases ho : s.env.txOutcome
  · rw [performTx_ok ho] at h; cases h; exact .sent t hc
  · rw [performTx_err ho] at h; cases h; exact .failed t hc

/-- The inversion of `performCurrent`. -/
theorem performCurrent_effect {s u : State} (h : performCurrent s = .next u) : ScriptEffect s u := by
  unfold performCurrent at h
  split at h
  · rename_i hc; cases h; exact .rst _ _ hc
  · rename_i hc
    obtain h' | h' | h' | h' := performWait_cases s <;> rw [h'] at h <;> cases h
    · exact .waited hc
    · exact .held _ hc (by simp)
    · exact .held _ hc (by simp)
    · exact .timedOut hc
  · rename_i hc; rw [exec_panelInstr] at h; exact performTx_effect hc h
  · rename_i hc; exact performTx_effect hc h
  · rename_i hc; exact performTx_effect hc h
  · unfold finish at h
    split at h
    · cases h; exact .completed ‹_›
    · cases h

/-- The inversion of `step`: block reset, a step of the script, nothing offered, or a request. -/
theorem step_cases {s t : State} (h : step s = .next t) :
    (s.env.rstAsserted = true ∧ t = blockReset (s.withEnv s.env.popRst)) ∨
    (s.env.rstAsserted = false ∧ s.state.executes = true ∧
      ScriptEffect (s.withEnv s.env.popRst) t) ∨
    (s.env.rstAsserted = false ∧ s.state.executes = false ∧ s.env.reqs = [] ∧
      t = s.withEnv s.env.popRst) ∨
    (s.env.rstAsserted = false ∧ s.state.executes = false ∧ ∃ r rest, s.env.reqs = r :: rest ∧
      exec (decodeRequest r) (s.withEnv s.env.popRst.popReq) = .next t ∧
      RequestEffect (decodeRequest r) (s.withEnv s.env.popRst.popReq) t) := by
  unfold step at h
  split at h
  · rename_i hr; cases h; exact .inl ⟨hr, rfl⟩
  · rename_i hr
    have hr' : s.env.rstAsserted = false := by simpa using hr
    unfold stepBlock at h
    split at h
    · rename_i he; exact .inr (.inl ⟨hr', he, performCurrent_effect h⟩)
    · rename_i he
      have he' : s.state.executes = false := by simpa using he
      unfold takeOffered at h
      split at h
      · rename_i r hq
        refine .inr (.inr (.inr ⟨hr', he', r, s.env.reqs.tail, ?_, h, ?_⟩))
        · simp only [State.withEnv_env, Env.offered_eq, Env.popRst_reqs] at hq
          cases hl : s.env.reqs <;> simp_all
        · exact exec_request_effect (decodeRequest_isRequest r) h
      · rename_i hq
        refine .inr (.inr (.inl ⟨hr', he', ?_, by cases h; rfl⟩))
        simpa using hq

end Sys2Proof.Machine
end

