-- ==== Sys2Proof/Laws/Run.lean ====
section
/-! SUPPORT. Runs of several steps: their composition, and the run over a stretch of a script whose
Waits read idle and whose transactions are answered ok; and the end of a Wait under panel fairness. -/

namespace Sys2Proof.Machine

theorem Env.noReset.rstAsserted {e : Env} (h : e.noReset) : e.rstAsserted = false := by
  unfold Env.noReset at h
  rw [Env.rstAsserted_eq]
  cases hr : e.rstIn with
  | nil => rfl
  | cons b l => rw [hr] at h; exact h b (by simp)

theorem Env.noReset.tail {e e' : Env} (h : e.noReset) (he : e'.rstIn = e.rstIn.tail) :
    e'.noReset := by
  intro b hb
  rw [he] at hb
  exact h b (List.mem_of_mem_tail hb)

theorem run_succ {n : Nat} {s t : State} (h : step s = .next t) :
    Host.Core.run Sys2Proof.core (n + 1) s = Host.Core.run Sys2Proof.core n t := by
  have : Sys2Proof.core.step s = .next t := h
  simp only [Host.Core.run]
  rw [this]

theorem run_one {s t : State} (h : step s = .next t) :
    Host.Core.run Sys2Proof.core 1 s = .next t := by rw [run_succ (n := 0) h]; rfl

theorem run_add (c : Host.Core) : ∀ (m n : Nat) (s t : c.State),
    Host.Core.run c m s = .next t → Host.Core.run c (m + n) s = Host.Core.run c n t
  | 0, n, s, t, h => by cases h; simp
  | m + 1, n, s, t, h => by
    rw [Nat.add_right_comm]
    rw [Host.Core.run] at h
    rw [Host.Core.run]
    cases hs : c.step s with
    | next u => rw [hs] at h; simp only []; exact run_add c m n u t h
    | fault f => rw [hs] at h; cases h
    | refused f => rw [hs] at h; cases h

/-- One completed step of a script. -/
theorem step_of_calm {s : State} {x : ScriptStep} {w n : Nat} {bs : List Bool} {ts : List TxOutcome}
    (he : s.state.executes = true) (hx : s.script[s.seqPc]? = some x)
    (hc : s.env.calm (x.isWait.toNat + w) (x.isTx.toNat + n) bs ts) :
    ∃ t, step s = .next t ∧ t.state = s.state ∧ t.script = s.script ∧ t.seqPc = s.seqPc + 1 ∧
      t.trace = s.trace ++ [x.event] ∧ t.responses = s.responses ∧ t.retState = s.retState ∧
      t.bg = s.bg ∧ t.faultCause = s.faultCause ∧ t.env.reqs = s.env.reqs ∧ t.env.calm w n bs ts := by
  obtain ⟨hn, hb, ht⟩ := hc
  rw [step_of_executes hn.rstAsserted he]
  cases x with
  | rst tl th =>
    rw [performCurrent_rst (s := s.withEnv s.env.popRst) (tl := tl) (th := th) hx]
    exact ⟨_, rfl, rfl, rfl, rfl, rfl, rfl, rfl, rfl, rfl, rfl, hn.tail rfl,
      by simpa [ScriptStep.isWait] using hb, by simpa [ScriptStep.isTx] using ht⟩
  | wait =>
    rw [performCurrent_wait (s := s.withEnv s.env.popRst) hx]
    have hb' : s.env.busyIn = false :: (List.replicate w false ++ bs) := by
      rw [hb]; simp [ScriptStep.isWait, List.replicate_add]
    rw [performWait_idle (Env.busyLevel_cons (by simpa using hb'))]
    exact ⟨_, rfl, rfl, rfl, rfl, rfl, rfl, rfl, rfl, rfl, by simp, hn.tail (by simp), by simp [hb'],
      by simpa [ScriptStep.isTx] using ht⟩
  | tx t =>
    rw [performCurrent_tx (s := s.withEnv s.env.popRst) (t := t) hx]
    have ht' : s.env.txIn = .ok :: (List.replicate n .ok ++ ts) := by
      rw [ht]; simp [ScriptStep.isTx, List.replicate_add]
    rw [performTx_ok (Env.txOutcome_cons (by simpa using ht'))]
    exact ⟨_, rfl, rfl, rfl, rfl, rfl, rfl, rfl, rfl, rfl, by simp, hn.tail (by simp),
      by simpa [ScriptStep.isWait] using hb, by simp [ht']⟩

theorem waitCount_cons (x : ScriptStep) (l : List ScriptStep) :
    waitCount (x :: l) = x.isWait.toNat + waitCount l := by
  simp only [waitCount, List.countP_cons]
  cases x.isWait <;> simp
  omega

theorem txCount_cons (x : ScriptStep) (l : List ScriptStep) :
    txCount (x :: l) = x.isTx.toNat + txCount l := by
  simp only [txCount, List.countP_cons]
  cases x.isTx <;> simp
  omega

/-- The stretch `m` of a script, from SEQ_PC on, completes step by step. -/
theorem run_of_calm {bs : List Bool} {ts : List TxOutcome} :
    ∀ (m : List ScriptStep) (s : State) (rest : List ScriptStep), s.state.executes = true →
      s.script.drop s.seqPc = m ++ rest → s.env.calm (waitCount m) (txCount m) bs ts →
      ∃ t : State, Host.Core.run Sys2Proof.core m.length s = .next t ∧ t.state = s.state ∧
        t.script = s.script ∧ t.seqPc = s.seqPc + m.length ∧
        t.trace = s.trace ++ m.map ScriptStep.event ∧ t.responses = s.responses ∧
        t.retState = s.retState ∧ t.bg = s.bg ∧ t.faultCause = s.faultCause ∧
        t.env.reqs = s.env.reqs ∧ t.env.calm 0 0 bs ts
  | [], s, _, _, _, hc => ⟨s, rfl, rfl, rfl, rfl, by simp, rfl, rfl, rfl, rfl, rfl, hc⟩
  | x :: m, s, rest, he, hd, hc => by
    have hx : s.script[s.seqPc]? = some x := by
      have := congrArg (·[0]?) hd
      simpa using this
    rw [waitCount_cons, txCount_cons] at hc
    obtain ⟨t, h0, h1, h2, h3, h4, h5, h6, h7, h8, h9, h10⟩ := step_of_calm he hx hc
    obtain ⟨u, g0, g1, g2, g3, g4, g5, g6, g7, g8, g9, g10⟩ :=
      run_of_calm m t rest (h1 ▸ he) (by rw [h2, h3, ← List.drop_drop, hd]; rfl) h10
    refine ⟨u, ?_, g1.trans h1, g2.trans h2, ?_, ?_, g5.trans h5, g6.trans h6, g7.trans h7,
      g8.trans h8, g9.trans h9, g10⟩
    · rw [List.length_cons, run_succ h0]; exact g0
    · rw [g3, h3, List.length_cons]; omega
    · rw [g4, h4]; simp

/-! ## Panel fairness (40_sequencer.md R125) -/

/-- Fairness of a run is fairness of each of its later parts. -/
theorem State.panelFair.of_run {s t : State} {k : Nat} (hf : s.panelFair)
    (h : Host.Core.run Sys2Proof.core k s = .next t) : t.panelFair := by
  intro m u hu he hw
  exact hf (k + m) u ((run_add Sys2Proof.core k m s t h).trans hu) he hw

theorem Env.popRst_heldSample (timed : Bool) (e : Env) :
    e.popRst.heldSample timed = (e.heldSample timed).popRst := by
  rcases e with ⟨q, r, b, x, t, d⟩
  cases timed <;> cases b <;> cases t <;> rfl

theorem Env.popRst_heldSamples (timed : Bool) : ∀ (n : Nat) (e : Env),
    e.popRst.heldSamples timed n = (e.heldSamples timed n).popRst
  | 0, _ => rfl
  | n + 1, e => by
    simp only [Env.heldSamples]
    rw [Env.popRst_heldSample, Env.popRst_heldSamples timed n]

@[simp] theorem Env.heldSample_reqs (timed : Bool) (e : Env) :
    (e.heldSample timed).reqs = e.reqs := by cases timed <;> simp [Env.heldSample]
@[simp] theorem Env.heldSample_rstIn (timed : Bool) (e : Env) :
    (e.heldSample timed).rstIn = e.rstIn := by cases timed <;> simp [Env.heldSample]
@[simp] theorem Env.heldSample_txIn (timed : Bool) (e : Env) :
    (e.heldSample timed).txIn = e.txIn := by cases timed <;> simp [Env.heldSample]

/-- A busy sample at a Wait: held, or (with the opt-in) the timeout. -/
theorem performWait_busy {s : State} (h : s.env.busyLevel = true) :
    performWait s = .next (s.withEnv (s.env.heldSample s.busyTimeoutEn)) ∨
    (s.busyTimeoutEn = true ∧ performWait s =
      .next (((s.withEnv s.env.popBusy.popTimeout).emit .timeout).raise .timeout)) := by
  cases ht : s.busyTimeoutEn
  · exact .inl (by rw [performWait_hold h ht]; rfl)
  · rw [performWait_busy_en h ht]
    cases s.env.popBusy.timeoutFires
    · exact .inl rfl
    · exact .inr ⟨rfl, rfl⟩

/-- If an idle sample comes, a Wait ends: completed, or (with the opt-in) by the timeout. -/
theorem wait_ends : ∀ (n : Nat) (s : State), s.state.executes = true →
    s.currentStep = some .wait → s.env.noReset →
    (s.env.heldSamples s.busyTimeoutEn n).busyLevel = false →
    ∃ (k : Nat) (e : Env), Host.Core.run Sys2Proof.core k s =
        .next ((s.withEnv e).emit .wait).advance ∧
      e.reqs = s.env.reqs ∧ e.txIn = s.env.txIn ∧ e.noReset ∨
    s.busyTimeoutEn = true ∧ Host.Core.run Sys2Proof.core k s =
        .next (((s.withEnv e).emit .timeout).raise .timeout) ∧ e.reqs = s.env.reqs
  | n, s, he, hw, hn, hi => by
    cases hb : s.env.busyLevel with
    | false =>
      refine ⟨1, s.env.popRst.popBusy, .inl ⟨run_one ?_, by simp, by simp, hn.tail (by simp)⟩⟩
      rw [step_of_executes hn.rstAsserted he, performCurrent_wait (by simpa using hw),
        performWait_idle (by simpa using hb)]
      rfl
    | true =>
      obtain h | ⟨ht, h⟩ := performWait_busy (s := s.withEnv s.env.popRst) (by simpa using hb)
      · match n, hi with
        | 0, hi => simp [Env.heldSamples, hb] at hi
        | n + 1, hi =>
          have h1 : step s = .next (s.withEnv (s.env.popRst.heldSample s.busyTimeoutEn)) := by
            rw [step_of_executes hn.rstAsserted he, performCurrent_wait (by simpa using hw), h]
            rfl
          obtain ⟨k, e, hk⟩ := wait_ends n (s.withEnv (s.env.popRst.heldSample s.busyTimeoutEn))
            he hw (hn.tail (by simp)) (by
              simp only [State.withEnv_env, State.withEnv_busyTimeoutEn]
              rw [Env.popRst_heldSample, Env.popRst_heldSamples]
              simpa [Env.heldSamples] using hi)
          refine ⟨k + 1, e, ?_⟩
          rw [run_succ h1]
          simpa using hk
      · refine ⟨1, s.env.popRst.popBusy.popTimeout, .inr ⟨ht, run_one ?_, by simp⟩⟩
        rw [step_of_executes hn.rstAsserted he, performCurrent_wait (by simpa using hw), h]
        rfl

end Sys2Proof.Machine
end

