-- ==== Sys2Proof/Laws/Scripts.lean ====
section
/-! SUPPORT. What every script has: a NOP directly after each master activation, and a step at
least. -/

namespace Sys2Proof.Machine

/-- Each Cmd(MASTER_ACTIVATION) of a list of steps has Cmd(NOP) directly after it. -/
def nopFollows (l : List ScriptStep) : Prop :=
  ∀ k : Nat, l[k]? = some (cmd .masterActivation) → l[k + 1]? = some (cmd .nop)

theorem nopFollows_of_not_mem {l : List ScriptStep} (h : cmd .masterActivation ∉ l) :
    nopFollows l := fun _ hk => absurd (List.mem_of_getElem? hk) h

theorem nopFollows.append_left {l m : List ScriptStep} (h : cmd .masterActivation ∉ l)
    (hm : nopFollows m) : nopFollows (l ++ m) := by
  intro k hk
  rcases Nat.lt_or_ge k l.length with hl | hl
  · rw [List.getElem?_append_left hl] at hk
    exact absurd (List.mem_of_getElem? hk) h
  · rw [List.getElem?_append_right hl] at hk
    rw [List.getElem?_append_right (by omega), show k + 1 - l.length = k - l.length + 1 by omega]
    exact hm _ hk

theorem nopFollows_displayFrameScript : nopFollows displayFrameScript := by
  intro k
  simp only [displayFrameScript, cmdData, cmd, data, List.cons_append, List.nil_append]
  rcases k with _ | _ | _ | _ | _ | k <;> simp

theorem nopFollows_scriptOf (r : Instr) (bg : Color) : nopFollows (scriptOf r bg) := by
  cases r
  case displayFrame => exact nopFollows_displayFrameScript
  case updateAndDisplayFrame =>
    exact nopFollows.append_left
      (by simp [updateFrameScript, fullFrameScript, areaScript, counterScript, cmdData, cmd, data])
      nopFollows_displayFrameScript
  all_goals
    refine nopFollows_of_not_mem ?_
    simp [scriptOf, initScript, wakeScript, sleepScript, clearFrameScript, updateColorFrameScript,
      fill, updateFrameScript, fullFrameScript, areaScript, counterScript, cmdData, cmd, data]

/-- A request with a script has a step to perform. -/
theorem scriptOf_ne_nil {r : Instr} (h : hasScript r = true) (bg : Color) : scriptOf r bg ≠ [] := by
  cases r <;> first
    | (cases h; done)
    | simp [scriptOf, initScript, wakeScript, sleepScript, clearFrameScript, updateColorFrameScript,
        displayFrameScript, updateAndDisplayFrameScript, updateFrameScript, fullFrameScript,
        areaScript, counterScript, cmdData]

/-- Appending an event keeps the rule where what may follow an activation follows it. -/
theorem activationsFollowed_append : ∀ (l : List Event) (e : Event), activationsFollowed l = true →
    (∀ x, l.getLast? = some x → isActivation x = true → endsActivation e = true) →
    activationsFollowed (l ++ [e]) = true
  | [], _, _, _ => rfl
  | [x], e, _, h => by
    have := h x rfl
    cases hx : isActivation x <;> simp_all [activationsFollowed]
  | x :: y :: l, e, h1, h2 => by
    simp only [activationsFollowed, Bool.and_eq_true] at h1
    simp only [List.cons_append, activationsFollowed, Bool.and_eq_true]
    exact ⟨h1.1, activationsFollowed_append (y :: l) e h1.2 fun z hz => h2 z (by simpa using hz)⟩

end Sys2Proof.Machine
end

