-- ==== Sys2Proof/Tests/Slice0.lean ====
section
/-! SUPPORT. Tests: words and results from 95_test_vectors.md, and for each obligation with
hypotheses a witness that meets them. -/

namespace Sys2Proof.Tests

open Sys2Proof.Machine

/-! ## Helpers -/

/-- The block right after reset, but for STATE. -/
def ready (x : FsmState) : State := { State.reset with state := x }

/-- A word offered with empty plane operands. -/
def withWord (s : State) (w : ReqWord) : State := s.offer ⟨w, [], []⟩

/-- SLEEP executing, with SEQ_PC at step `k` of `WAIT, CMD(DEEP_SLEEP), DATA([0x01])`. -/
def inSleep (k : Nat) (busy : List Bool) (tx : List TxOutcome) : State :=
  { loadScript .sleep (ready .idle) with
    seqPc := k
    env := { Env.none with busyIn := busy, txIn := tx } }

/-- SLEEP executing at its Wait, with the opt-in timeout. -/
def inTimedWait (busy fires : Bool) : State :=
  { inSleep 0 [] [] with
    busyTimeoutEn := true
    env := { Env.none with busyIn := [busy], timeoutIn := [fires] } }

/-- INIT just loaded. -/
def inInit : State := loadScript .init (ready .uninit)

/-- FAULT by ERR_WINDOW. -/
def faulted : State := { ready .fault with faultCause := some .window }

def nextOf (o : Outcome) : Option State :=
  match o with
  | .next t => some t
  | .fault _ => none
  | .refused _ => none

def statusAfter (s : State) : Option (BitVec 16) := (nextOf (step s)).map State.status

def traceAfter (s : State) : Option (List Event) := (nextOf (step s)).map State.trace

/-! ## WellFormed -/

/-- The one check: an illegal word that is legal (INIT), one that is supported to be ignored (OP 0xC)
and one with a good colour are not illegal words. -/
theorem test_wellFormed_refuses :
    wellFormed (.illegal 0x000000000000#48) = false ∧
    wellFormed (.illegal 0xFFFFFFFFFFFC#48) = false ∧
    wellFormed (.illegal 0x000000000028#48) = false := by decide

theorem test_wellFormed_accepts :
    wellFormed (.illegal 0x00000000000E#48) = true ∧
    wellFormed (.illegal 0x000000000038#48) = true ∧
    wellFormed (.illegal 0x00000400000A#48) = true := by decide

/-! ## Decode (V-ENC) -/

theorem test_decode_lifecycle :
    decodeTableWord 48 0x000000000000 = some .init ∧
    decodeTableWord 48 0x000000000001 = some .wake ∧
    decodeTableWord 48 0x000000000002 = some .sleep := by decide

theorem test_decode_frame :
    decodeTableWord 48 0x000000000003 = some (.updateFrame []) ∧
    decodeTableWord 48 0x000000000004 = some (.updateColorFrame [] []) ∧
    decodeTableWord 48 0x000000000005 = some .displayFrame ∧
    decodeTableWord 48 0x000000000006 = some (.updateAndDisplayFrame []) ∧
    decodeTableWord 48 0x000000000007 = some .clearFrame := by decide

theorem test_decode_planes :
    decodeRequest ⟨0x000000000004#48, [1#8], [2#8]⟩ = .updateColorFrame [1#8] [2#8] := by decide

theorem test_decode_background :
    decodeTableWord 48 0x000000000008 = some (.setBackground .white) ∧
    decodeTableWord 48 0x000000000018 = some (.setBackground .black) ∧
    decodeTableWord 48 0x000000000028 = some (.setBackground .chromatic) := by decide

theorem test_decode_window :
    decodeTableWord 48 0x063B1C000009 = some (.setRamArea 0 0 199 199) ∧
    decodeTableWord 48 0x005010000509 = some (.setRamArea 5 0 4 10) ∧
    decodeTableWord 48 0x000002020F0A = some (.setRamCounter 15 257) ∧
    decodeTableWord 48 0x0000018EC70A = some (.setRamCounter 199 199) ∧
    decodeTableWord 48 0x00000000000B = some .useFullFrame := by decide

theorem test_decode_unsupported :
    decodeTableWord 48 0x00000000000C = some .updatePartialFrame ∧
    decodeTableWord 48 0xFFFFFFFFFFFC = some .updatePartialFrame ∧
    decodeTableWord 48 0xF028140A05FD = some .setLut := by decide

theorem test_decode_illegal :
    decodeTableWord 48 0x00000000000E = some (.illegal 0xE) ∧
    decodeTableWord 48 0x00000000000F = some (.illegal 0xF) ∧
    decodeTableWord 48 0x000000000010 = some (.illegal 0x10) ∧
    decodeTableWord 48 0x000000000040 = some (.illegal 0x40) ∧
    decodeTableWord 48 0x000000000108 = some (.illegal 0x108) ∧
    decodeTableWord 48 0x00000400000A = some (.illegal 0x400000A) := by decide

/-- R100: where OPC gives 16 different bytes, each byte decodes to its own command. -/
theorem test_decode_panel (h : ∀ p q, Config.opc p = Config.opc q → p = q) (p : PanelOp) :
    decode (.command (Config.opc p)) = .ok (panelInstr p) := by
  have hf : PanelOp.all.find? (fun q => Config.opc q == Config.opc p) = some p := by
    have he : (fun q => Config.opc q == Config.opc p) = fun q => q == p := by
      funext q
      by_cases hq : q = p
      · simp [hq]
      · have hc : Config.opc q ≠ Config.opc p := fun hc => hq (h q p hc)
        simp [hq, hc]
    rw [he]
    cases p <;> rfl
  simp [decode, decodePanelByte, hf]

/-- R100: the byte of the first name needs no such premise. -/
theorem test_decode_panel_first :
    decode (.command (Config.opc .swReset)) = .ok .panelSwReset := by
  simp [decode, decodePanelByte, PanelOp.all, panelInstr]

/-- R100: the byte of each command is its own name's. -/
theorem test_encode_panel :
    encode .panelSwReset = .command (Config.opc .swReset) ∧
    encode .panelWriteRam1 = .command (Config.opc .writeRam1) ∧
    encode .panelWriteRam2 = .command (Config.opc .writeRam2) ∧
    encode .panelNop = .command (Config.opc .nop) := ⟨rfl, rfl, rfl, rfl⟩

/-- V-WIN, the words of SET_RAM_AREA and SET_RAM_COUNTER. -/
theorem test_encode_window :
    encode (.setRamArea 7 0 8 1) = .request ⟨0x000820000709, [], []⟩ ∧
    encode (.setRamArea 0 255 199 256) = .request ⟨0x08031DFE0009, [], []⟩ ∧
    encode (.setRamCounter 7 256) = .request ⟨0x00000200070A, [], []⟩ := by decide

/-- R99. -/
theorem test_assemble :
    assemble "SET_RAM_AREA" [.number 16, .number 0, .number 23, .number 199] =
      some (.setRamArea 16 0 23 199) ∧
    assemble "SET_RAM_COUNTER" [.number 512, .number 0] = none ∧
    assemble "SET_LUT" [.number 7] = some .setLut := by
  simp [assemble, asmCoord]

/-! ## Operands (V-WIN, W3, W4) -/

theorem test_payloads :
    xWindow 16 23 = [0x02, 0x02] ∧ xCounter 8 = [0x01] ∧ xCounter 511 = [0x3F] ∧
    yCounter 256 = [0x00, 0x01] ∧ yWindow 0 1 = [0x00, 0x00, 0x01, 0x00] := by decide

theorem test_windowOk :
    windowOk 0 255 199 256 = true ∧ windowOk 0 0 0 0 = false ∧ windowOk 5 0 4 10 = false ∧
    windowOk 0 10 8 10 = false := by decide

theorem test_fills : clearFillA .chromatic = (0xFF, 10000) ∧ clearFillC = (0x00, 5000) := by decide

/-- 40_sequencer.md R122, for both polarities. -/
theorem test_readsBusy :
    readsBusy false true = true ∧ readsBusy false false = false ∧
    readsBusy true false = true ∧ readsBusy true true = false := by decide

/-! ## STATUS after one step (V-INIT, V-FRAME, V-PWR, V-ACC, V-TX, V-TO, V-RST, V-STAT) -/

theorem test_status_reset : State.reset.status = 0x0F00#16 := by decide

theorem test_init_loads : statusAfter (withWord State.reset 0x0) = some 0x0F41#16 := by decide

theorem test_wake_loads : statusAfter (withWord (ready .sleeping) 0x1) = some 0x0F41#16 := by decide

theorem test_sleep_refused :
    statusAfter (withWord (ready .uninit) 0x2) = some 0x0200#16 ∧
    statusAfter (withWord (ready .sleeping) 0x2) = some 0x0204#16 := by decide

theorem test_background :
    statusAfter (withWord (ready .uninit) 0x28) = some 0x0010#16 ∧
    statusAfter (withWord (ready .sleeping) 0x18) = some 0x000C#16 ∧
    statusAfter (withWord (ready .idle) 0x08) = some 0x0002#16 := by decide

theorem test_clear_loads :
    statusAfter (withWord { ready .idle with bg := .chromatic, lastRsp := .ok } 0x7) =
      some 0x0053#16 := by decide

theorem test_bad_window :
    statusAfter (withWord (ready .idle) 0x00803C200809) = some 0x3325#16 ∧
    statusAfter (withWord (ready .uninit) 0x00803C200809) = some 0x0200#16 := by decide

theorem test_bad_length :
    statusAfter ((ready .idle).offer ⟨0x3, [], []⟩) = some 0x4425#16 ∧
    statusAfter ((ready .uninit).offer ⟨0x3, [], []⟩) = some 0x0200#16 := by decide

theorem test_unsupported :
    statusAfter (withWord (ready .uninit) 0xC) = some 0x5525#16 ∧
    statusAfter (withWord (ready .sleeping) 0xD) = some 0x5525#16 := by decide

theorem test_faulted :
    statusAfter (withWord faulted 0x0) = some 0x3825#16 ∧
    statusAfter (withWord faulted 0xE) = some 0x3825#16 := by decide

theorem test_illegal :
    statusAfter (withWord (ready .uninit) 0xE) = some 0x0100#16 ∧
    statusAfter (withWord (ready .uninit) 0x42) = some 0x0100#16 := by decide

theorem test_transport_failure : statusAfter (inSleep 2 [] [.err]) = some 0x0600#16 := by decide

theorem test_completion : statusAfter (inSleep 3 [] []) = some 0x0004#16 := by decide

theorem test_timeout :
    statusAfter (inTimedWait true true) = some 0x0700#16 ∧
    traceAfter (inTimedWait true true) = some [.timeout] := by decide

theorem test_block_reset :
    statusAfter { faulted with bg := .chromatic, env := { Env.none with rstIn := [true] } } =
      some 0x0F00#16 ∧
    traceAfter { faulted with env := { Env.none with rstIn := [true] } } = some [.breset] := by decide

theorem test_config :
    State.reset.statData 2 = 0#32 ∧ { State.reset with busyTimeoutEn := true }.statData 2 = 2#32 ∧
    State.reset.statData 5 = 0#32 := by decide

/-! ## Steps of a script -/

theorem test_wait_completes : traceAfter (inSleep 0 [false] []) = some [.wait] := by decide

theorem test_wait_holds : traceAfter (inSleep 0 [true, false] []) = some [] := by decide

theorem test_command_sent :
    traceAfter (inSleep 1 [] [.ok]) = some [.tx (.cmd .deepSleep)] := by decide

theorem test_data_fails : traceAfter (inSleep 2 [] [.err]) = some [.txfail (.data [0x01])] := by
  decide

theorem test_rst_first :
    traceAfter inInit = some [.rst Config.tRstLow Config.tRstHigh] := rfl

/-- Each panel command sends its own name. -/
theorem test_panel_commands : ∀ p ∈ PanelOp.all,
    (nextOf (exec (panelInstr p) (inSleep 0 [] [.ok]))).map State.trace = some [.tx (.cmd p)] := by
  decide

/-- 20_memory.md R67: a failed transaction's bytes reach the panel up to any prefix. -/
theorem test_flatten :
    flattensTo [.wait, .tx (.data [1, 2]), .txfail (.data [3, 4])] [.d 1, .d 2, .d 3] :=
  ⟨0, _, rfl, 0, _, rfl, 1, _, rfl, rfl⟩

/-- 70_reset_and_hazards.md R261: of a data step that a block reset cuts off, any prefix, here the whole,
may have reached the panel; the trace holds BRESET alone (V-RST). -/
theorem test_cut_off :
    let s := { inSleep 2 [] [] with env := { Env.none with rstIn := [true] } }
    traceAfter s = some [.breset] ∧ (nextOf (step s)).map State.cutOff = some [some (.data [0x01])] ∧
    receivedFrom [.breset] [some (.data [0x01])] [.d 0x01] ∧
    receivedFrom [.breset] [some (.data [0x01])] [] :=
  ⟨by decide, by decide, ⟨1, [], rfl, rfl⟩, 0, [], rfl, rfl⟩

/-! ## withFetchWord -/

theorem test_withFetchWord_request :
    statusAfter (State.reset.withFetchWord 48 0x0) = some 0x0F41#16 ∧
    statusAfter (State.reset.withFetchWord 48 0x28) = some 0x0010#16 ∧
    statusAfter (State.reset.withFetchWord 48 0xE) = some 0x0100#16 := by decide

theorem test_placeCommand :
    traceAfter ({ State.reset with env := { Env.none with txIn := [.ok] } }.placeCommand .nop) =
      some [.tx (.cmd .nop)] := by decide

/-! ## Witnesses -/

theorem witness_DecodeOfEncodeIsTheRequest :
    isRequest (.setRamArea 511 0 0 511) = true ∧ wellFormed (.setRamArea 511 0 0 511) = true ∧
    isRequest (.illegal 0xE) = true ∧ wellFormed (.illegal 0xE) = true := by decide

theorem witness_EncodeOfDecodeIsTheWord :
    (0x063B1C000009#48).extractLsb' 0 4 ≠ 0xC#4 ∧ (0x063B1C000009#48).extractLsb' 0 4 ≠ 0xD#4 := by
  decide

theorem witness_IllegalWordsAreThoseOfTheList :
    decodeRequest ⟨0x38, [], []⟩ = .illegal 0x38 ∧ State.reset.reqReady = true ∧
    State.reset.state ≠ .fault := by decide

theorem witness_StepRunsTheDecodedInstruction :
    (let s := withWord State.reset 0x5
     s.env.rstAsserted = false ∧ s.reqReady = true ∧ s.env.reqs = [⟨0x5, [], []⟩]) ∧
    (let s := inSleep 1 [] [.ok]
     s.env.rstAsserted = false ∧ s.state.executes = true ∧
       s.script[s.seqPc]? = some (.tx (.cmd .deepSleep))) := by decide

theorem witness_OffersStayWhileExecuting :
    ∃ t, (withWord (inSleep 0 [true] []) 0x0).state.executes = true ∧
      step (withWord (inSleep 0 [true] []) 0x0) = .next t ∧ t.env.reqs = [⟨0x0, [], []⟩] :=
  ⟨_, rfl, rfl, rfl⟩

theorem witness_NoStepOfItsOwn :
    (∃ t, (withWord State.reset 0x0).env.rstAsserted = false ∧
      (withWord State.reset 0x0).state.executes = false ∧
      step (withWord State.reset 0x0) = .next t) ∧
    (State.reset.env.rstAsserted = false ∧ State.reset.state.executes = false ∧
      State.reset.env.reqs = []) ∧
    (let s := { inSleep 2 [] [] with env := { Env.none with rstIn := [true] } }
     ∃ t, s.env.rstAsserted = true ∧ step s = .next t ∧ s.state.executes = true ∧
       s.script[s.seqPc]? = some (.tx (.data [0x01])) ∧ s.panelReceived []) :=
  ⟨⟨_, rfl, rfl, rfl⟩, ⟨rfl, rfl, rfl⟩, _, rfl, rfl, rfl, rfl, rfl⟩

theorem witness_BlockResetIsTheOnlyWayOutOfFault :
    { faulted with env := { Env.none with rstIn := [true] } }.env.rstAsserted = true ∧
    ∃ t, faulted.env.rstAsserted = false ∧ faulted.state = .fault ∧
      step (withWord faulted 0x0) = .next t := ⟨rfl, _, rfl, rfl, rfl⟩

theorem witness_InitLoadsItsScript :
    (ready .uninit).state = .uninit ∧ (ready .idle).state = .idle ∧
    (ready .sleeping).state = .sleeping := ⟨rfl, rfl, rfl⟩

theorem witness_WakeLoadsTheInitScript :
    ∃ t, (ready .sleeping).state = .sleeping ∧ exec .init (ready .sleeping) = .next t :=
  ⟨_, rfl, rfl⟩

theorem witness_SleepLoadsItsScript : (ready .idle).state = .idle := rfl

theorem witness_SetRamAreaLoadsItsScript :
    (ready .idle).state = .idle ∧ (0#9).toNat < (1#9).toNat ∧ (510#9).toNat < (511#9).toNat := by
  decide

theorem witness_SetRamCounterLoadsItsScript : (ready .idle).state = .idle := rfl

theorem witness_UseFullFrameLoadsItsScript : (ready .idle).state = .idle := rfl

theorem witness_FrameWritesLoadTheirScripts :
    (ready .idle).state = .idle ∧ (List.replicate 5000 (0#8)).length = 5000 :=
  ⟨rfl, List.length_replicate⟩

theorem witness_DisplayFrameLoadsItsScript : (ready .idle).state = .idle := rfl

theorem witness_UpdateAndDisplayFrameLoadsBothScripts :
    (ready .idle).state = .idle ∧ (List.replicate 5000 (0xFF#8)).length = 5000 :=
  ⟨rfl, List.length_replicate⟩

theorem witness_ClearFrameLoadsTheFillsOfTheBackground :
    { ready .idle with bg := .chromatic }.state = .idle ∧
    { ready .idle with bg := .black }.state = .idle ∧ (ready .idle).state = .idle :=
  ⟨rfl, rfl, rfl⟩

/-- The four address commands of USE_FULL_FRAME's script. -/
theorem witness_AddressWritesFollowAWait :
    (scriptOf .useFullFrame .white)[1]? = some (.tx (.cmd .ramXWindow)) ∧
    (scriptOf .useFullFrame .white)[3]? = some (.tx (.cmd .ramYWindow)) ∧
    (scriptOf .useFullFrame .white)[6]? = some (.tx (.cmd .ramXCounter)) ∧
    (scriptOf .useFullFrame .white)[8]? = some (.tx (.cmd .ramYCounter)) := by decide

theorem witness_SetBackgroundIsImmediate :
    (ready .uninit).state = .uninit ∧ (ready .sleeping).state = .sleeping := ⟨rfl, rfl⟩

theorem witness_UnsupportedRequestsAlwaysFail :
    (ready .idle).state = .idle ∧ faulted.state = .fault ∧
    (0xFFFFFFFFFFFC#48).extractLsb' 0 4 = 0xC#4 ∧ (0xFFFFFFFFFFFD#48).extractLsb' 0 4 = 0xD#4 := by
  decide

theorem witness_IllegalIsAnsweredAndNothingElse : (ready .sleeping).state = .sleeping := rfl

theorem witness_FaultAnswersFaultedToEveryWord : faulted.state = .fault := rfl

theorem witness_WrongStateIsRefused :
    (ready .uninit).state = .uninit ∧ (ready .sleeping).state = .sleeping ∧
    hasScript (.setRamArea 8 16 15 16) = true ∧ hasScript .sleep = true ∧
    Instr.sleep ≠ .init ∧ Instr.sleep ≠ .wake := by decide

theorem witness_BadWindowFailsBeforeAnyStep :
    (ready .idle).state = .idle ∧ (15#9).toNat ≤ (15#9).toNat ∧ (16#9).toNat ≤ (16#9).toNat := by
  decide

theorem witness_BadPlaneLengthFailsBeforeAnyStep :
    (ready .idle).state = .idle ∧ (List.replicate 4999 (0#8)).length ≠ 5000 ∧
    (List.replicate 5001 (0#8)).length ≠ 5000 ∧ ([] : List Byte).length ≠ 5000 := by
  rw [List.length_replicate, List.length_replicate]
  exact ⟨rfl, by omega, by omega, by simp⟩

theorem witness_TransportFailureAborts :
    let s := inSleep 2 [] [.err]
    s.env.rstAsserted = false ∧ s.state.executes = true ∧
      s.script[s.seqPc]? = some (.tx (.data [0x01])) ∧ s.env.txOutcome = .err := by decide

theorem witness_ConfigurationCommandsComplete : (inSleep 1 [] [.ok]).env.txOutcome = .ok := rfl

theorem witness_AddressAndPlaneCommandsComplete : (inSleep 1 [] [.ok]).env.txOutcome = .ok := rfl

theorem witness_DisplayAndSleepCommandsComplete : (inSleep 1 [] [.ok]).env.txOutcome = .ok := rfl

theorem witness_TransactionStepsAsSpecified :
    (inInit.env.rstAsserted = false ∧ inInit.state.executes = true ∧
      inInit.script[inInit.seqPc]? = some (.rst Config.tRstLow Config.tRstHigh)) ∧
    ((inSleep 1 [] [.ok]).env.rstAsserted = false ∧ (inSleep 1 [] [.ok]).state.executes = true ∧
      (inSleep 1 [] [.ok]).script[1]? = some (.tx (.cmd .deepSleep)) ∧
      (inSleep 1 [] [.ok]).env.txOutcome = .ok ∧ (inSleep 1 [] [.err]).env.txOutcome = .err) :=
  ⟨⟨rfl, rfl, rfl⟩, rfl, rfl, rfl, rfl, rfl⟩

theorem witness_WaitCompletesOnlyOnIdle :
    (let s := inSleep 0 [false] []
     s.env.rstAsserted = false ∧ s.state.executes = true ∧ s.script[s.seqPc]? = some .wait ∧
       s.env.busyLevel = false) ∧
    (let s := inSleep 0 [true] []
     s.env.rstAsserted = false ∧ s.state.executes = true ∧ s.script[s.seqPc]? = some .wait ∧
       s.env.busyLevel = true ∧ s.busyTimeoutEn = false) ∧
    (inSleep 0 [true] []).env.rstIn = [] ∧
    (inSleep 0 [true] []).env.busyIn = List.replicate 1 true ++ [] := by decide

theorem witness_TimeoutOnlyAtABusySample :
    (let s := inTimedWait true true
     s.env.rstAsserted = false ∧ s.state.executes = true ∧ s.script[s.seqPc]? = some .wait ∧
       s.busyTimeoutEn = true ∧ s.env.busyLevel = true ∧ s.env.popBusy.timeoutFires = true) ∧
    (let s := inTimedWait true false
     s.env.busyLevel = true ∧ s.env.popBusy.timeoutFires = false) ∧
    (inTimedWait false true).env.busyLevel = false := by decide

/-- SLEEP executing has the invariant of the registers, at each of its places. -/
theorem inSleep_inv (k : Nat) (hk : k ≤ 3) (busy : List Bool) (tx : List TxOutcome) :
    (inSleep k busy tx).Inv where
  cause := rfl
  restPc := fun h => nomatch h
  pcInScript := fun _ => hk
  scriptOfReq := fun _ => rfl
  reqPassed := fun _ => ⟨rfl, rfl⟩
  stateOfReq := fun _ => rfl
  retOfReq := fun _ => rfl
  lastOfRsps := .inl rfl

theorem inSleep_activationInv (k : Nat) (busy : List Bool) (tx : List TxOutcome) :
    (inSleep k busy tx).ActivationInv where
  followed := rfl
  pending := fun _ h => nomatch h

theorem witness_CompletionAnswersOk :
    (inSleep 3 [] []).Inv ∧ (inSleep 3 [] []).env.rstAsserted = false ∧
    (inSleep 3 [] []).state.executes = true ∧
    (inSleep 3 [] []).seqPc = (inSleep 3 [] []).script.length :=
  ⟨inSleep_inv 3 (by omega) _ _, rfl, rfl, rfl⟩

/-- One step that delivers a response and one that delivers none. -/
theorem witness_LastRspIsTheResponseDelivered :
    (∃ t, step (inSleep 3 [] []) = .next t ∧ t.responses = [.ok]) ∧
    (∃ t, step (inSleep 0 [false] []) = .next t ∧ t.responses = []) := ⟨⟨_, rfl, rfl⟩, _, rfl, rfl⟩

theorem witness_HistoryIsAppendedAndNeverRead :
    ∃ t, step (inSleep 2 [] [.err]) = .next t ∧ t.trace ≠ [] ∧ t.responses ≠ [] :=
  ⟨_, rfl, by decide, by decide⟩

theorem witness_BgIsWrittenAndReadOnlyAsStated :
    (∃ t, step (withWord State.reset 0x28) = .next t ∧ t.bg ≠ State.reset.bg) ∧
    (∃ t, step { faulted with bg := .black, env := { Env.none with rstIn := [true] } } = .next t ∧
      t.bg ≠ .black) ∧
    (∃ t, step (withWord (ready .idle) 0x5) = .next t) ∧
    (∀ r, (withWord (ready .idle) 0x5).reqReady = true →
      (withWord (ready .idle) 0x5).env.offered = some r → decodeRequest r ≠ .clearFrame) ∧
    (1 ≠ 0 ∧ 2 ≠ 0 ∧ 3 ≠ 0) := by
  refine ⟨⟨_, rfl, by decide⟩, ⟨_, rfl, by decide⟩, ⟨_, rfl⟩, fun r _ h => ?_, by decide⟩
  obtain rfl : (⟨0x5, [], []⟩ : Request) = r := Option.some.inj h
  decide

/-- Each of the ways out of SLEEPING. -/
theorem witness_ExitsFromSleeping :
    (∃ t, step (withWord (ready .sleeping) 0x1) = .next t ∧ t.state = .initializing) ∧
    (∃ t, step (withWord (ready .sleeping) 0xC) = .next t ∧ t.state = .fault) ∧
    (∃ t, step { ready .sleeping with env := { Env.none with rstIn := [true] } } = .next t ∧
      t.state = .uninit) ∧ (ready .sleeping).state = .sleeping ∧
    (withWord (ready .sleeping) 0x1).env.rstAsserted = false ∧
    (withWord (ready .sleeping) 0x1).env.offered = some ⟨0x1, [], []⟩ ∧
    decodeRequest ⟨0x1, [], []⟩ = .wake ∧ decodeRequest ⟨0x0, [], []⟩ = .init ∧
    decodeRequest ⟨0xC, [], []⟩ = .updatePartialFrame ∧ decodeRequest ⟨0xD, [], []⟩ = .setLut :=
  ⟨⟨_, rfl, rfl⟩, ⟨_, rfl, rfl⟩, ⟨_, rfl, rfl⟩, rfl, rfl, rfl, by decide⟩

theorem witness_ScriptIsFixedWhileItRuns :
    (∃ t, (inSleep 2 [] [.err]).env.rstAsserted = false ∧
      (inSleep 2 [] [.err]).state.executes = true ∧ step (inSleep 2 [] [.err]) = .next t) ∧
    (∃ t, isRequest .sleep = true ∧ (ready .idle).reqReady = true ∧
      exec .sleep (ready .idle) = .next t ∧ t.state.executes = true) :=
  ⟨⟨_, rfl, rfl, rfl⟩, _, rfl, rfl, rfl, rfl⟩

theorem witness_StepKeepsTheRegisterInvariant :
    (inSleep 1 [] [.ok]).Inv ∧ ∃ t, step (inSleep 1 [] [.ok]) = .next t :=
  ⟨inSleep_inv 1 (by omega) _ _, _, rfl⟩

theorem witness_StepKeepsTheActivationRule :
    (inSleep 1 [] [.ok]).Inv ∧ (inSleep 1 [] [.ok]).ActivationInv ∧
    ∃ t, step (inSleep 1 [] [.ok]) = .next t :=
  ⟨inSleep_inv 1 (by omega) _ _, inSleep_activationInv _ _ _, _, rfl⟩

theorem witness_StepNeverStops : (inSleep 3 [] []).Inv := inSleep_inv 3 (by omega) _ _

theorem witness_LoadedScriptRunsToItsEnd :
    let s := inSleep 0 [false, true] [.ok, .ok, .err]
    s.state.executes = true ∧ s.seqPc = 0 ∧
      s.env.calm (waitCount s.script) (txCount s.script) [true] [.err] :=
  ⟨rfl, rfl, (fun _ h => nomatch h), rfl, rfl⟩

theorem witness_AcceptedRequestRunsToItsResponse :
    let s : State := { ready .idle with
      env := { Env.none with reqs := [⟨0x2, [], []⟩], busyIn := [false], txIn := [.ok, .ok] } }
    s.env.reqs = [⟨0x2, [], []⟩] ∧ acceptedIn (decodeRequest ⟨0x2, [], []⟩) s.state = true ∧
      operandsPass (decodeRequest ⟨0x2, [], []⟩) = true ∧
      s.env.calm (waitCount (scriptOf (decodeRequest ⟨0x2, [], []⟩) s.bg))
        (txCount (scriptOf (decodeRequest ⟨0x2, [], []⟩) s.bg)) [] [] :=
  ⟨rfl, rfl, rfl, (fun _ h => nomatch h), rfl, rfl⟩

theorem witness_FailedStepEndsTheTrace :
    let s := inSleep 0 [false] [.ok, .err]
    s.state.executes = true ∧ s.seqPc = 0 ∧ s.script[2]? = some (.tx (.data [0x01])) ∧
      s.env.calm (waitCount (s.script.take 2)) (txCount (s.script.take 2)) [] [.err] :=
  ⟨rfl, rfl, rfl, (fun _ h => nomatch h), rfl, rfl⟩

theorem witness_BusyHoldLastsUntilIdle :
    let s := inSleep 0 [true, true, false] []
    s.state.executes = true ∧ s.busyTimeoutEn = false ∧ s.env.noReset ∧
      s.script[s.seqPc]? = some .wait ∧ s.env.busyIn = List.replicate 2 true ++ [false] :=
  ⟨rfl, rfl, (fun _ h => nomatch h), rfl, rfl⟩

/-- A state that steps to itself stays. -/
theorem run_settled {u : State} (h : step u = .next u) :
    ∀ k, Host.Core.run Sys2Proof.core k u = .next u
  | 0 => rfl
  | k + 1 => (run_succ h).trans (run_settled h k)

/-- SLEEP at its Wait before a panel that reads busy once and then idle, with every answer ok. -/
theorem inSleep_panelFair : (inSleep 0 [true, false] [.ok, .ok]).panelFair := by
  intro k t hk he hw
  match k, hk with
  | 0, hk => cases hk; exact ⟨1, rfl⟩
  | 1, hk => cases hk; exact ⟨0, rfl⟩
  | 2, hk => cases hk; cases hw
  | 3, hk => cases hk; cases hw
  | 4, hk => cases hk; cases hw
  | k + 5, hk =>
    obtain ⟨u, h5, hu, hx⟩ : ∃ u : State,
        Host.Core.run Sys2Proof.core 5 (inSleep 0 [true, false] [.ok, .ok]) = .next u ∧
        step u = .next u ∧ u.state.executes = false := ⟨_, rfl, rfl, rfl⟩
    have ht := (run_add Sys2Proof.core 5 k _ u h5).symm.trans ((Nat.add_comm k 5) ▸ hk)
    rw [run_settled hu] at ht
    cases ht
    rw [hx] at he
    cases he

theorem witness_FairPanelEndsEveryRequest :
    let s := inSleep 0 [true, false] [.ok, .ok]
    s.state.executes = true ∧ s.seqPc ≤ s.script.length ∧ s.env.noReset ∧ s.panelFair :=
  ⟨rfl, Nat.zero_le _, (fun _ h => nomatch h), inSleep_panelFair⟩

theorem witness_DriverOutputControlPayload : 1 ≤ 1 ∧ 1 ≤ 512 ∧ 512 ≤ 512 := by decide

theorem witness_GeometryAndConfigRead : 3 ≤ 3 ∧ 3 ≤ 1000 := by decide

end Sys2Proof.Tests
end

/-! The state of the block (10_state.md): what every step keeps of the registers, what the history and
BG are read by, and what the status registers show. -/

section
namespace Sys2Proof.Machine

/-! ## The register invariant: one rule per operation of the state -/

/-- At rest the invariant asks for FAULT_CAUSE, SEQ_PC and LAST_RSP alone. -/
theorem State.Inv.of_rest {s : State} (hr : s.state.executes = false)
    (hc : s.faultCause.isSome = (s.state == .fault)) (hp : s.seqPc = 0)
    (hl : s.lastRsp = .none ∨ s.responses.getLast? = some s.lastRsp) : s.Inv where
  cause := hc
  restPc _ := hp
  pcInScript he := by simp [hr] at he
  scriptOfReq he := by simp [hr] at he
  reqPassed he := by simp [hr] at he
  stateOfReq he := by simp [hr] at he
  retOfReq he := by simp [hr] at he
  lastOfRsps := hl

theorem State.Inv.withEnv {s : State} (h : s.Inv) (e : Env) : (s.withEnv e).Inv := { h with }

theorem State.Inv.emit {s : State} (h : s.Inv) (e : Event) : (s.emit e).Inv := { h with }

theorem State.Inv.panelRstHigh {s : State} (h : s.Inv) : { s with panelRst := true }.Inv := { h with }

/-- A response is the last one delivered, whatever it is. -/
theorem State.Inv.respond {s : State} (h : s.Inv) (c : Rsp) : (s.respond c).Inv :=
  { h with lastOfRsps := .inr (by simp) }

/-- SEQ_PC may advance over a step that SCRIPT has. -/
theorem State.Inv.advance {s : State} {x : ScriptStep} (h : s.Inv) (he : s.state.executes = true)
    (hx : s.currentStep = some x) : s.advance.Inv :=
  { h with
    restPc := fun hr => by simp [he] at hr
    pcInScript := fun _ => (List.getElem?_eq_some_iff.1 hx).1 }

theorem ne_fault_of_executes {x : FsmState} (he : x.executes = true) : x ≠ .fault := by
  rintro rfl; cases he

/-- FAULT_CAUSE is 0 outside FAULT. -/
theorem State.Inv.faultCause_eq_none {s : State} (h : s.Inv) (hf : s.state ≠ .fault) :
    s.faultCause = none :=
  Option.not_isSome_iff_eq_none.1 (by simpa [h.cause] using hf)

theorem State.Inv.abandon {s : State} (h : s.Inv) (he : s.state.executes = true) : s.abandon.Inv :=
  .of_rest rfl (by simp [h.faultCause_eq_none (ne_fault_of_executes he)]) rfl h.lastOfRsps

theorem retStateOf_ne_fault (i : Instr) : retStateOf i ≠ .fault := by cases i <;> nofun

theorem State.Inv.complete {s : State} (h : s.Inv) (he : s.state.executes = true) :
    s.complete.Inv := by
  have hret : s.retState = retStateOf s.curReq := h.retOfReq he
  have hcause : s.faultCause = none := h.faultCause_eq_none (ne_fault_of_executes he)
  exact .of_rest (by simp [hret]) (by simp [hret, hcause, retStateOf_ne_fault]) rfl
    (.inr (by simp))

theorem State.Inv.enterFault {s : State} (h : s.Inv) (hr : s.state.executes = false)
    (e : ProgError) : (s.enterFault e).Inv :=
  .of_rest rfl rfl (h.restPc hr) h.lastOfRsps

theorem State.Inv.setBg {s : State} (h : s.Inv) (hr : s.state.executes = false) (c : Color) :
    { s with bg := c }.Inv :=
  .of_rest hr h.cause (h.restPc hr) h.lastOfRsps

/-- 40_sequencer.md R121: loading sets every register of an executing request to what CUR_REQ gives. -/
theorem State.Inv.loadScript {s : State} {i : Instr} (h : s.Inv) (hf : s.state ≠ .fault)
    (hs : hasScript i = true) (ho : operandsPass i = true) : (loadScript i s).Inv where
  cause := by
    simp [h.faultCause_eq_none hf, ne_fault_of_executes (execState_executes i)]
  restPc _ := rfl
  pcInScript _ := Nat.zero_le _
  scriptOfReq _ := rfl
  reqPassed _ := ⟨hs, ho⟩
  stateOfReq _ := rfl
  retOfReq _ := rfl
  lastOfRsps := h.lastOfRsps

/-- Block reset gives the invariant from every state. -/
theorem blockReset_inv (s : State) : (blockReset s).Inv := .of_rest rfl rfl rfl (.inl rfl)

theorem reset_inv : State.reset.Inv := .of_rest rfl rfl rfl (.inl rfl)

theorem reset_activationInv : State.reset.ActivationInv := ⟨rfl, fun _ h => nomatch h⟩

theorem ScriptEffect.inv {s t : State} (ht : ScriptEffect s t) (h : s.Inv)
    (he : s.state.executes = true) : t.Inv := by
  cases ht with
  | rst tl th hx => exact (h.panelRstHigh.emit _).advance he hx
  | waited hx => exact ((h.withEnv _).emit _).advance he hx
  | held e hx hq => exact h.withEnv e
  | timedOut hx => exact (((h.withEnv s.env.popBusy.popTimeout).emit .timeout).abandon he).respond _
  | sent x hx => exact ((h.withEnv _).emit _).advance he hx
  | failed x hx => exact (((h.withEnv s.env.popTx).emit (.txfail x)).abandon he).respond _
  | completed hend => exact h.complete he

theorem RequestEffect.inv {i : Instr} {s t : State} (ht : RequestEffect i s t) (h : s.Inv) :
    t.Inv := by
  cases ht with
  | notTaken he => exact h
  | answered e hr hwhy => exact h.respond _
  | faulted p hr hf hp hi => exact (h.enterFault hr p).respond _
  | background c hr hf hi => exact (h.setBg hr c).respond _
  | loaded ha ho hs => exact h.loadScript (acceptedIn_ready ha).2 hs ho

/-- Settles O46: each operation that a step is made of keeps the invariant. -/
theorem stepKeepsTheRegisterInvariant : Obligations.StepKeepsTheRegisterInvariant := by
  intro s t h hst
  obtain ⟨_, rfl⟩ | ⟨_, he, ht⟩ | ⟨_, _, _, rfl⟩ | ⟨_, _, _, _, _, _, ht⟩ := step_cases hst
  · exact blockReset_inv _
  · exact ht.inv (h.withEnv _) he
  · exact h.withEnv _
  · exact ht.inv (h.withEnv _)

/-- Settles O47. -/
theorem resetHasTheInvariants : Obligations.ResetHasTheInvariants :=
  ⟨reset_inv, reset_activationInv⟩

end Sys2Proof.Machine
end

section
namespace Sys2Proof.Machine

/-! ## What a step does not read (10_state.md R23, R35)

One simulation lemma for both noninterference statements: if a relation of blocks implies that
whatever a step reads is the same in both, and every operation on the state keeps it, then related
blocks step to related blocks. -/

/-- `s'` has all that a step decides by: STATE, SEQ_PC, SCRIPT, BUSY_TIMEOUT_EN and the inputs. -/
structure State.SameReads (s s' : State) : Prop where
  state : s'.state = s.state
  seqPc : s'.seqPc = s.seqPc
  script : s'.script = s.script
  timed : s'.busyTimeoutEn = s.busyTimeoutEn
  env : s'.env = s.env

theorem State.SameReads.currentStep {s s' : State} (h : s.SameReads s') :
    s'.currentStep = s.currentStep := by
  rw [State.currentStep, h.script, h.seqPc, State.currentStep]

/-- A relation that no step reads past, kept by every operation. SCRIPT depends on BG, so loading
keeps it where both backgrounds give the same script. -/
structure Unread (R : State → State → Prop) : Prop where
  reads {s s'} : R s s' → s.SameReads s'
  withEnv {s s'} (e : Env) : R s s' → R (s.withEnv e) (s'.withEnv e)
  emit {s s'} (e : Event) : R s s' → R (s.emit e) (s'.emit e)
  advance {s s'} : R s s' → R s.advance s'.advance
  respond {s s'} (c : Rsp) : R s s' → R (s.respond c) (s'.respond c)
  enterFault {s s'} (p : ProgError) : R s s' → R (s.enterFault p) (s'.enterFault p)
  abandon {s s'} : R s s' → R s.abandon s'.abandon
  complete {s s'} : R s s' → R s.complete s'.complete
  panelRstHigh {s s'} : R s s' → R { s with panelRst := true } { s' with panelRst := true }
  setBg {s s'} (c : Color) : R s s' → R { s with bg := c } { s' with bg := c }
  loadScript {s s'} {i : Instr} (hb : scriptOf i s'.bg = scriptOf i s.bg) :
    R s s' → R (loadScript i s) (loadScript i s')
  blockReset {s s'} : R s s' → R (blockReset s) (blockReset s')

/-- Two steps end alike: in related states, or in the same stop. -/
inductive OutcomeRel (R : State → State → Prop) : Outcome → Outcome → Prop where
  | next {t t'} (h : R t t') : OutcomeRel R (.next t) (.next t')
  | fault (f : Fault) : OutcomeRel R (.fault f) (.fault f)
  | refused (f : Refusal) : OutcomeRel R (.refused f) (.refused f)

theorem OutcomeRel.of_next {R : State → State → Prop} {t : State} {o : Outcome}
    (h : OutcomeRel R (.next t) o) : ∃ t', o = .next t' ∧ R t t' := by
  cases h with
  | next h => exact ⟨_, rfl, h⟩

section Simulation
variable {R : State → State → Prop} (U : Unread R) {s s' : State} (h : R s s')
include U h

theorem Unread.raise (e : Err) : R (s.raise e) (s'.raise e) := by
  cases e with
  | illegal => exact U.respond _ h
  | state => exact U.respond _ h
  | faulted => exact U.respond _ h
  | prog p => exact U.respond _ (U.enterFault p h)
  | transport => exact U.respond _ (U.abandon h)
  | timeout => exact U.respond _ (U.abandon h)

theorem Unread.takeRequest {k : State → State} (hk : R (k s) (k s')) :
    OutcomeRel R (takeRequest k s) (takeRequest k s') := by
  have hst := (U.reads h).state
  obtain ⟨he, h'⟩ | ⟨hf, h'⟩ | ⟨hr, hf, h'⟩ := takeRequest_cases k s <;> rw [h']
  · rw [takeRequest_of_executes (hst ▸ he)]; exact .next h
  · rw [takeRequest_of_fault (hst ▸ hf)]; exact .next (U.raise h _)
  · rw [takeRequest_of_ready (hst ▸ hr) (hst ▸ hf)]; exact .next hk

theorem Unread.ifAccepted (acc : FsmState → Bool) {k : State → State} (hk : R (k s) (k s')) :
    R (ifAccepted acc k s) (ifAccepted acc k s') := by
  rw [Machine.ifAccepted, Machine.ifAccepted, (U.reads h).state]
  split
  · exact hk
  · exact U.raise h _

theorem Unread.ifOperands (ok : Bool) (e : ProgError) {k : State → State} (hk : R (k s) (k s')) :
    R (ifOperands ok e k s) (ifOperands ok e k s') := by
  rw [Machine.ifOperands, Machine.ifOperands]
  split
  · exact hk
  · exact U.raise h _

theorem Unread.exec_request {i : Instr} (hi : isRequest i = true)
    (hb : scriptOf i s'.bg = scriptOf i s.bg) : OutcomeRel R (exec i s) (exec i s') := by
  have load (acc : FsmState → Bool) :
      R (Machine.ifAccepted acc (Machine.loadScript i) s)
        (Machine.ifAccepted acc (Machine.loadScript i) s') :=
    U.ifAccepted h acc (U.loadScript hb h)
  have checked (acc : FsmState → Bool) (ok : Bool) (e : ProgError) :
      R (Machine.ifAccepted acc (Machine.ifOperands ok e (Machine.loadScript i)) s)
        (Machine.ifAccepted acc (Machine.ifOperands ok e (Machine.loadScript i)) s') :=
    U.ifAccepted h acc (U.ifOperands h ok e (U.loadScript hb h))
  cases i with
  | init => exact U.takeRequest h (load _)
  | wake => exact U.takeRequest h (load _)
  | sleep => exact U.takeRequest h (load _)
  | displayFrame => exact U.takeRequest h (load _)
  | clearFrame => exact U.takeRequest h (load _)
  | setRamCounter x y => exact U.takeRequest h (load _)
  | useFullFrame => exact U.takeRequest h (load _)
  | updateFrame a => exact U.takeRequest h (checked _ _ _)
  | updateColorFrame a c => exact U.takeRequest h (checked _ _ _)
  | updateAndDisplayFrame a => exact U.takeRequest h (checked _ _ _)
  | setRamArea sx sy ex ey => exact U.takeRequest h (checked _ _ _)
  | setBackground c =>
    exact U.takeRequest h (U.ifAccepted h _ (U.respond _ (U.setBg c h)))
  | updatePartialFrame =>
    simpa only [exec_updatePartialFrame] using
      U.takeRequest h (k := (State.raise · _)) (U.raise h _)
  | setLut =>
    simpa only [exec_setLut] using U.takeRequest h (k := (State.raise · _)) (U.raise h _)
  | illegal w =>
    simpa only [exec_illegal] using U.takeRequest h (k := (State.raise · _)) (U.raise h _)
  | _ => cases hi

theorem Unread.performRst (tl th : Nat) :
    OutcomeRel R (performRst tl th s) (performRst tl th s') :=
  .next (U.advance (U.emit _ (U.panelRstHigh h)))

theorem Unread.performTx (x : Tx) : OutcomeRel R (performTx x s) (performTx x s') := by
  rw [Machine.performTx, Machine.performTx, (U.reads h).env]
  split
  · exact .next (U.advance (U.emit _ (U.withEnv _ h)))
  · exact .next (U.raise (U.emit _ (U.withEnv _ h)) _)

theorem Unread.performWait : OutcomeRel R (performWait s) (performWait s') := by
  rw [Machine.performWait, Machine.performWait, (U.reads h).env, (U.reads h).timed]
  split
  · split
    · split
      · exact .next (U.raise (U.emit _ (U.withEnv _ h)) _)
      · exact .next (U.withEnv _ h)
    · exact .next (U.withEnv _ h)
  · exact .next (U.advance (U.emit _ (U.withEnv _ h)))

theorem Unread.finish : OutcomeRel R (finish s) (finish s') := by
  rw [Machine.finish, Machine.finish, (U.reads h).seqPc, (U.reads h).script]
  split
  · exact .next (U.complete h)
  · exact .fault _

theorem Unread.performCurrent : OutcomeRel R (performCurrent s) (performCurrent s') := by
  unfold Machine.performCurrent
  rw [(U.reads h).currentStep]
  split
  · exact U.performRst h _ _
  · exact U.performWait h
  · simpa only [exec_panelInstr] using U.performTx h _
  · exact U.performTx h _
  · exact U.performTx h _
  · exact U.finish h

theorem Unread.takeOffered (hb : ∀ r, s.env.offered = some r →
      scriptOf (decodeRequest r) s'.bg = scriptOf (decodeRequest r) s.bg) :
    OutcomeRel R (takeOffered s) (takeOffered s') := by
  unfold Machine.takeOffered
  rw [(U.reads h).env]
  split
  · rename_i r hr
    exact U.exec_request (U.withEnv _ h) (decodeRequest_isRequest r) (hb r hr)
  · exact .next h

/-- Related blocks step alike, if a request taken has the same script under both backgrounds. -/
theorem Unread.step (hb : ∀ r, s.reqReady = true → s.env.offered = some r →
      scriptOf (decodeRequest r) s'.bg = scriptOf (decodeRequest r) s.bg) :
    OutcomeRel R (step s) (step s') := by
  have hp := U.withEnv s.env.popRst h
  rw [Machine.step, Machine.step, (U.reads h).env]
  split
  · exact .next (U.blockReset hp)
  · rw [stepBlock, stepBlock, (U.reads hp).state]
    split
    · exact U.performCurrent hp
    · rename_i he
      exact U.takeOffered hp fun r hr =>
        hb r (by simpa [State.reqReady, State.execFlag] using he) hr

end Simulation

/-! ## The history -/

/-- From blocks with the histories `tr0`, `rs0` and `tr`, `rs`, the same has been appended to both,
and nothing else differs. -/
def SameGrowth (tr0 tr : List Event) (rs0 rs : List Rsp) (t t' : State) : Prop :=
  ∃ es cs, t.trace = tr0 ++ es ∧ t.responses = rs0 ++ cs ∧
    t' = { t with trace := tr ++ es, responses := rs ++ cs }

theorem sameGrowth_self (s : State) (tr : List Event) (rs : List Rsp) :
    SameGrowth s.trace tr s.responses rs s { s with trace := tr, responses := rs } :=
  ⟨[], [], by simp⟩

theorem SameGrowth.snocEvent {tr0 tr : List Event} {rs0 rs : List Rsp} {t t' : State} (e : Event)
    (h : SameGrowth tr0 tr rs0 rs t t') : SameGrowth tr0 tr rs0 rs (t.emit e) (t'.emit e) := by
  obtain ⟨es, cs, he, hc, rfl⟩ := h
  exact ⟨es ++ [e], cs, by simp [he], hc, by rw [← List.append_assoc]; rfl⟩

theorem SameGrowth.snocResponse {tr0 tr : List Event} {rs0 rs : List Rsp} {t t' : State} (c : Rsp)
    (h : SameGrowth tr0 tr rs0 rs t t') : SameGrowth tr0 tr rs0 rs (t.respond c) (t'.respond c) := by
  obtain ⟨es, cs, he, hc, rfl⟩ := h
  exact ⟨es, cs ++ [c], he, by simp [hc], by rw [← List.append_assoc]; rfl⟩

/-- No step reads the history. -/
theorem unread_sameGrowth (tr0 tr : List Event) (rs0 rs : List Rsp) :
    Unread (SameGrowth tr0 tr rs0 rs) where
  reads := by rintro s _ ⟨es, cs, _, _, rfl⟩; exact ⟨rfl, rfl, rfl, rfl, rfl⟩
  withEnv _ := by rintro ⟨es, cs, he, hc, rfl⟩; exact ⟨es, cs, he, hc, rfl⟩
  emit e := .snocEvent e
  advance := by rintro s _ ⟨es, cs, he, hc, rfl⟩; exact ⟨es, cs, he, hc, rfl⟩
  respond c := .snocResponse c
  enterFault _ := by rintro ⟨es, cs, he, hc, rfl⟩; exact ⟨es, cs, he, hc, rfl⟩
  abandon := by rintro s _ ⟨es, cs, he, hc, rfl⟩; exact ⟨es, cs, he, hc, rfl⟩
  complete := by
    rintro s _ ⟨es, cs, he, hc, rfl⟩
    exact ⟨es, cs ++ [.ok], he, by simp [hc], by rw [← List.append_assoc]; rfl⟩
  panelRstHigh := by rintro s _ ⟨es, cs, he, hc, rfl⟩; exact ⟨es, cs, he, hc, rfl⟩
  setBg _ := by rintro ⟨es, cs, he, hc, rfl⟩; exact ⟨es, cs, he, hc, rfl⟩
  loadScript _ := by rintro ⟨es, cs, he, hc, rfl⟩; exact ⟨es, cs, he, hc, rfl⟩
  blockReset := by
    rintro s _ ⟨es, cs, he, hc, rfl⟩
    exact ⟨es ++ [.breset], cs, by simp [he], hc, by rw [← List.append_assoc]; rfl⟩

/-- At most one event and one response have been appended. -/
structure State.GrowsByOne (s t : State) : Prop where
  trace : t.trace.length ≤ s.trace.length + 1
  responses : t.responses.length ≤ s.responses.length + 1

theorem ScriptEffect.growsByOne {s t : State} (h : ScriptEffect s t) : s.GrowsByOne t := by
  cases h <;> constructor <;> simp

theorem RequestEffect.growsByOne {i : Instr} {s t : State} (h : RequestEffect i s t) :
    s.GrowsByOne t := by
  cases h <;> constructor <;> simp

theorem step_growsByOne {s t : State} (h : step s = .next t) : s.GrowsByOne t := by
  obtain ⟨_, rfl⟩ | ⟨_, _, ht⟩ | ⟨_, _, _, rfl⟩ | ⟨_, _, _, _, _, _, ht⟩ := step_cases h
  · constructor <;> simp
  · exact ⟨ht.growsByOne.trace, ht.growsByOne.responses⟩
  · constructor <;> simp
  · exact ⟨ht.growsByOne.trace, ht.growsByOne.responses⟩

/-- Settles O42: a block with another history steps alike, and the two grow by the same. -/
theorem historyIsAppendedAndNeverRead : Obligations.HistoryIsAppendedAndNeverRead := by
  intro s t tr rs hst
  have hsim := (unread_sameGrowth s.trace tr s.responses rs).step (sameGrowth_self s tr rs)
    fun _ _ _ => rfl
  rw [hst] at hsim
  obtain ⟨_, hst', es, cs, he, hc, rfl⟩ := hsim.of_next
  obtain ⟨hle, hlc⟩ := step_growsByOne hst
  exact ⟨es, cs, by simpa [he] using hle, by simpa [hc] using hlc, he, hc, hst'⟩

/-! ## BG -/

/-- The two differ in BG at most. -/
def SameButBg (s s' : State) : Prop := ∃ c, s' = { s with bg := c }

/-- No step reads BG but the loading of a script. -/
theorem unread_sameButBg : Unread SameButBg where
  reads := by rintro s _ ⟨c, rfl⟩; exact ⟨rfl, rfl, rfl, rfl, rfl⟩
  withEnv _ := by rintro ⟨c, rfl⟩; exact ⟨c, rfl⟩
  emit _ := by rintro ⟨c, rfl⟩; exact ⟨c, rfl⟩
  advance := by rintro s _ ⟨c, rfl⟩; exact ⟨c, rfl⟩
  respond _ := by rintro ⟨c, rfl⟩; exact ⟨c, rfl⟩
  enterFault _ := by rintro ⟨c, rfl⟩; exact ⟨c, rfl⟩
  abandon := by rintro s _ ⟨c, rfl⟩; exact ⟨c, rfl⟩
  complete := by rintro s _ ⟨c, rfl⟩; exact ⟨c, rfl⟩
  panelRstHigh := by rintro s _ ⟨c, rfl⟩; exact ⟨c, rfl⟩
  setBg b := by rintro ⟨c, rfl⟩; exact ⟨b, rfl⟩
  loadScript hb := by rintro ⟨c, rfl⟩; exact ⟨c, by simp [loadScript, hb]⟩
  blockReset := by rintro s _ ⟨c, rfl⟩; exact ⟨.white, rfl⟩

/-- 40_sequencer.md R130: of the scripts, CLEAR_FRAME's alone depends on BG. -/
theorem scriptOf_eq_of_ne_clearFrame {i : Instr} (hi : i ≠ .clearFrame) (b c : Color) :
    scriptOf i b = scriptOf i c := by
  cases i with
  | clearFrame => exact absurd rfl hi
  | _ => rfl

theorem ScriptEffect.bg_eq {s t : State} (h : ScriptEffect s t) : t.bg = s.bg := by
  cases h <;> rfl

theorem RequestEffect.bg_cases {i : Instr} {s t : State} (h : RequestEffect i s t) :
    t.bg = s.bg ∨ i = .setBackground t.bg := by
  cases h with
  | background c hr hf hi => exact .inr hi
  | notTaken => exact .inl rfl
  | answered => exact .inl rfl
  | faulted => exact .inl rfl
  | loaded => exact .inl rfl

/-- Who writes BG. -/
theorem step_bg_ne {s t : State} (h : step s = .next t) (hne : t.bg ≠ s.bg) :
    s.env.rstAsserted = true ∨
    (s.reqReady = true ∧ ∃ r, s.env.offered = some r ∧ decodeRequest r = .setBackground t.bg) := by
  obtain ⟨hrst, _⟩ | ⟨_, _, ht⟩ | ⟨_, _, _, rfl⟩ | ⟨_, hr, r, rest, hq, _, ht⟩ := step_cases h
  · exact .inl hrst
  · exact absurd ht.bg_eq hne
  · exact absurd rfl hne
  · exact .inr ⟨by simp [State.reqReady, State.execFlag, hr], r, by simp [hq],
      ht.bg_cases.resolve_left hne⟩

/-- Who reads BG among the steps. -/
theorem step_setBg {s t : State} (b : Color) (h : step s = .next t)
    (hi : ∀ r, s.reqReady = true → s.env.offered = some r → decodeRequest r ≠ .clearFrame) :
    ∃ c, step { s with bg := b } = .next { t with bg := c } := by
  have hsim := unread_sameButBg.step (s := s) ⟨b, rfl⟩ fun r hr ho =>
    scriptOf_eq_of_ne_clearFrame (hi r hr ho) _ _
  rw [h] at hsim
  obtain ⟨_, hst', c, rfl⟩ := hsim.of_next
  exact ⟨c, hst'⟩

/-- Who reads BG among the status registers. -/
theorem statData_setBg (s : State) (b : Color) {sel : Nat} (hsel : sel ≠ 0) :
    { s with bg := b }.statData sel = s.statData sel := by
  match sel with
  | 0 => exact absurd rfl hsel
  | 1 => rfl
  | 2 => rfl
  | _ + 3 => rfl

/-- Settles O43. -/
theorem bgIsWrittenAndReadOnlyAsStated : Obligations.BgIsWrittenAndReadOnlyAsStated :=
  ⟨rfl, rfl, rfl, fun _ _ => step_bg_ne, fun _ _ => step_setBg, fun s b _ => statData_setBg s b⟩

end Sys2Proof.Machine
end

section
namespace Sys2Proof.Machine

/-! ## The status registers (10_state.md R29, R30) -/

section StatusFields
variable (s : State)

theorem extractLsb'_statData_zero {start len : Nat} (h : start + len ≤ 32) :
    (s.statData 0).extractLsb' start len = s.status.extractLsb' start len :=
  BitVec.extractLsb'_setWidth_of_le h

/-! A field is found by dropping the fields below it, one at a time. -/

theorem status_state : s.status.extractLsb' 0 3 = s.state.code :=
  BitVec.extractLsb'_append_eq_right

theorem status_bg : s.status.extractLsb' 3 2 = s.bg.code := by
  rw [State.status]
  rw [BitVec.extractLsb'_append_eq_of_le (by decide)]
  exact BitVec.extractLsb'_append_eq_right

theorem status_faulted : s.status.extractLsb' 5 1 = BitVec.ofBool s.faultedFlag := by
  rw [State.status]
  iterate 2 rw [BitVec.extractLsb'_append_eq_of_le (by decide)]
  exact BitVec.extractLsb'_append_eq_right

theorem status_exec : s.status.extractLsb' 6 1 = BitVec.ofBool s.execFlag := by
  rw [State.status]
  iterate 3 rw [BitVec.extractLsb'_append_eq_of_le (by decide)]
  exact BitVec.extractLsb'_append_eq_right

theorem status_reserved : s.status.extractLsb' 7 1 = 0#1 := by
  rw [State.status]
  iterate 4 rw [BitVec.extractLsb'_append_eq_of_le (by decide)]
  exact BitVec.extractLsb'_append_eq_right

theorem status_lastRsp : s.status.extractLsb' 8 4 = s.lastRsp.code := by
  rw [State.status]
  iterate 5 rw [BitVec.extractLsb'_append_eq_of_le (by decide)]
  exact BitVec.extractLsb'_append_eq_right

theorem status_faultCause : s.status.extractLsb' 12 4 = faultCauseCode s.faultCause := by
  rw [State.status]
  iterate 6 rw [BitVec.extractLsb'_append_eq_of_le (by decide)]
  exact BitVec.extractLsb'_eq_self

/-- A flag of STATUS, as the bit that select 0 shows. -/
theorem getLsbD_statData_zero_of_status {k : Nat} {b : Bool} (hk : k < 32)
    (h : s.status.extractLsb' k 1 = BitVec.ofBool b) : (s.statData 0).getLsbD k = b := by
  rw [← extractLsb'_statData_zero s hk] at h
  simpa using congrArg (BitVec.getLsbD · 0) h

/-- STATUS is 16 bits: nothing of it stands in the upper half. -/
theorem statData_zero_upper : (s.statData 0).extractLsb' 16 16 = 0#16 := by
  rw [extractLsb'_statData_zero s (by decide)]
  exact BitVec.eq_of_getLsbD_eq fun i hi => by simp

theorem faultedFlag_iff : s.faultedFlag = true ↔ s.state = .fault := by
  simp [State.faultedFlag]

theorem execFlag_iff : s.execFlag = true ↔ s.state = .initializing ∨ s.state = .busy := by
  cases h : s.state <;> simp [State.execFlag, h, FsmState.executes]

end StatusFields

/-- Settles O58: each field is one operand of the concatenation; the codes are those of the tables. -/
theorem statusShowsTheRegisters : Obligations.StatusShowsTheRegisters := by
  refine ⟨fun s => ⟨?state, ?bg, ?faulted, ?exec, ?reserved, ?lastRsp, ?faultCause,
    statData_zero_upper s⟩, ?stateCodes, ?bgCodes, ?rspCodes, ?causeCodes⟩
  case state => rw [extractLsb'_statData_zero s (by decide), status_state]
  case bg => rw [extractLsb'_statData_zero s (by decide), status_bg]
  case faulted =>
    rw [getLsbD_statData_zero_of_status s (by decide) (status_faulted s), faultedFlag_iff]
  case exec =>
    rw [getLsbD_statData_zero_of_status s (by decide) (status_exec s), execFlag_iff]
  case reserved => exact getLsbD_statData_zero_of_status s (by decide) (status_reserved s)
  case lastRsp => rw [extractLsb'_statData_zero s (by decide), status_lastRsp]
  case faultCause => rw [extractLsb'_statData_zero s (by decide), status_faultCause]
  case stateCodes => decide
  case bgCodes => decide
  case rspCodes => decide
  case causeCodes => decide

theorem geometry_eq : geometry = 0x00C800C8#32 := by decide

/-- CONFIG shows BUSY_TIMEOUT_EN in bit 1; DEFAULT_BG is White and IS_BUSY_LOW is 0. -/
theorem config_eq (s : State) : s.config = if s.busyTimeoutEn then 2#32 else 0#32 := by
  cases h : s.busyTimeoutEn <;> rw [State.config, h] <;> rfl

theorem statData_of_three_le (s : State) {sel : Nat} (h : 3 ≤ sel) : s.statData sel = 0#32 := by
  match sel with
  | _ + 3 => rfl

/-- Settles O59. -/
theorem geometryAndConfigRead : Obligations.GeometryAndConfigRead :=
  fun s _ => ⟨geometry_eq, config_eq s, statData_of_three_le s⟩

/-- Settles O11: the registers are written out in `State.reset`; select 0, 1 and 2 are computed from
them. -/
theorem resetValues : Obligations.ResetValues :=
  ⟨rfl, rfl, rfl, rfl, rfl, rfl, rfl, by decide, geometry_eq, config_eq State.reset⟩

end Sys2Proof.Machine
end

section
namespace Sys2Proof.Machine

/-! The coordinate bytes: 20_memory.md R63 and R65, 42_window.md R161. -/

theorem toNat_eq_lo8_add_hi1 (v : Coord) : v.toNat = (lo8 v).toNat + 256 * (hi1 v).toNat := by
  rw [lo8_toNat, hi1_toNat]
  exact (Nat.mod_add_div v.toNat 256).symm

theorem hi1_toNat_le_one (v : Coord) : (hi1 v).toNat ≤ 1 := by
  have hv : v.toNat < 512 := v.isLt
  rw [hi1_toNat]
  omega

theorem xByte_toNat_lt (x : Coord) : (xByte x).toNat < 64 := by
  have hx : x.toNat < 512 := x.isLt
  rw [xByte_toNat]
  omega

theorem xByte_eq_iff (x x' : Coord) : xByte x = xByte x' ↔ x.toNat / 8 = x'.toNat / 8 := by
  rw [← BitVec.toNat_inj, xByte_toNat, xByte_toNat]

/-- Settles O55: the bytes are the remainder and quotient by 256, and the quotient by 8. -/
theorem splitIsLosslessAndXTruncates : Obligations.SplitIsLosslessAndXTruncates :=
  ⟨fun v => ⟨toNat_eq_lo8_add_hi1 v, hi1_toNat_le_one v⟩, xByte_toNat_lt,
    fun x x' => (xByte_eq_iff x x').symm⟩

end Sys2Proof.Machine
end

/-! The encoding (30_encoding.md): request words are read row by row of R92, each row once; the
obligations follow from what a row says of decoding, of illegality and of the word's fields. -/

section
namespace Sys2Proof

/-! ## A word is its fields (R90, R99) -/

variable {w : ReqWord}

theorem getLsbD_eq_of_extract_eq {w' : ReqWord} {k n j : Nat}
    (h : w.extractLsb' k n = w'.extractLsb' k n) (hk : k ≤ j) (hj : j < k + n) :
    w.getLsbD j = w'.getLsbD j := by
  have hlt : j - k < n := by omega
  have hadd : k + (j - k) = j := by omega
  simpa [hlt, hadd] using congrArg (BitVec.getLsbD · (j - k)) h

/-- Every bit of a word lies in one of the eight fields. -/
theorem word_ext {w' : ReqWord} (hop : fieldOp w = fieldOp w') (hcol : fieldCol w = fieldCol w')
    (hrsv0 : fieldRsv0 w = fieldRsv0 w') (h0 : fieldA0 w = fieldA0 w')
    (h1 : fieldA1 w = fieldA1 w') (h2 : fieldA2 w = fieldA2 w') (h3 : fieldA3 w = fieldA3 w')
    (hrsv1 : fieldRsv1 w = fieldRsv1 w') : w = w' := by
  refine BitVec.eq_of_getLsbD_eq fun j hj => ?_
  have hfield : j < 4 ∨ (4 ≤ j ∧ j < 6) ∨ (6 ≤ j ∧ j < 8) ∨ (8 ≤ j ∧ j < 17) ∨
      (17 ≤ j ∧ j < 26) ∨ (26 ≤ j ∧ j < 35) ∨ (35 ≤ j ∧ j < 44) ∨ 44 ≤ j := by omega
  obtain h | ⟨ha, hb⟩ | ⟨ha, hb⟩ | ⟨ha, hb⟩ | ⟨ha, hb⟩ | ⟨ha, hb⟩ | ⟨ha, hb⟩ | h := hfield
  · exact getLsbD_eq_of_extract_eq hop (Nat.zero_le j) h
  · exact getLsbD_eq_of_extract_eq hcol ha hb
  · exact getLsbD_eq_of_extract_eq hrsv0 ha hb
  · exact getLsbD_eq_of_extract_eq h0 ha hb
  · exact getLsbD_eq_of_extract_eq h1 ha hb
  · exact getLsbD_eq_of_extract_eq h2 ha hb
  · exact getLsbD_eq_of_extract_eq h3 ha hb
  · exact getLsbD_eq_of_extract_eq hrsv1 h hj

theorem reservedZero_iff : reservedZero w = true ↔ fieldRsv0 w = 0#2 ∧ fieldRsv1 w = 0#4 := by
  simp [reservedZero]

theorem coordsZero_iff : coordsZero w = true ↔
    fieldA0 w = 0#9 ∧ fieldA1 w = 0#9 ∧ fieldA2 w = 0#9 ∧ fieldA3 w = 0#9 := by
  simp [coordsZero, and_assoc]

theorem plainFields_iff : plainFields w = true ↔
    fieldCol w = 0#2 ∧ coordsZero w = true ∧ reservedZero w = true := by
  simp [plainFields, and_assoc]

theorem backgroundFields_iff : backgroundFields w = true ↔
    coordsZero w = true ∧ reservedZero w = true := by
  simp [backgroundFields]

theorem areaFields_iff : areaFields w = true ↔ fieldCol w = 0#2 ∧ reservedZero w = true := by
  simp [areaFields]

theorem counterFields_iff : counterFields w = true ↔
    fieldCol w = 0#2 ∧ fieldA2 w = 0#9 ∧ fieldA3 w = 0#9 ∧ reservedZero w = true := by
  simp [counterFields, and_assoc]

/-- A word whose reserved bits are zero is assembled from its other fields. -/
theorem assembleWord_of_fields {op : BitVec 4} {col : BitVec 2} {a0 a1 a2 a3 : Coord}
    (hop : fieldOp w = op) (hcol : fieldCol w = col) (h0 : fieldA0 w = a0) (h1 : fieldA1 w = a1)
    (h2 : fieldA2 w = a2) (h3 : fieldA3 w = a3) (hrsv : reservedZero w = true) :
    assembleWord op col a0 a1 a2 a3 = w := by
  obtain ⟨hrsv0, hrsv1⟩ := reservedZero_iff.1 hrsv
  subst hop hcol h0 h1 h2 h3
  apply word_ext <;> simp [hrsv0, hrsv1]

theorem plainWord_of_plainFields (h : plainFields w = true) : plainWord (fieldOp w) = w := by
  obtain ⟨hcol, hcoords, hrsv⟩ := plainFields_iff.1 h
  obtain ⟨h0, h1, h2, h3⟩ := coordsZero_iff.1 hcoords
  exact assembleWord_of_fields rfl hcol h0 h1 h2 h3 hrsv

@[simp] theorem reservedZero_assembleWord (op : BitVec 4) (col : BitVec 2) (a0 a1 a2 a3 : Coord) :
    reservedZero (assembleWord op col a0 a1 a2 a3) = true := by
  simp [reservedZero]

@[simp] theorem fieldOp_plainWord (op : BitVec 4) : fieldOp (plainWord op) = op :=
  fieldOp_assembleWord ..

@[simp] theorem plainFields_plainWord (op : BitVec 4) : plainFields (plainWord op) = true := by
  simp [plainFields, coordsZero, plainWord]

/-! ## The rows of R92: which words of each row are illegal (R96) -/

/-- The values of OP of R92's first row: the requests without operands in the word. -/
def plainOps : List (BitVec 4) := [0x0#4, 0x1#4, 0x2#4, 0x3#4, 0x4#4, 0x5#4, 0x6#4, 0x7#4, 0xB#4]

/-- The values of OP, row by row of R92. -/
theorem op_rows (op : BitVec 4) :
    op ∈ plainOps ∨ op = 0x8#4 ∨ op = 0x9#4 ∨ op = 0xA#4 ∨ op = 0xC#4 ∨ op = 0xD#4 ∨
      (op = 0xE#4 ∨ op = 0xF#4) := by
  revert op; decide

theorem plainOps_ne : ∀ op ∈ plainOps, op ≠ 0x8#4 ∧ op ≠ 0x9#4 ∧ op ≠ 0xA#4 ∧ op ≠ 0xC#4 ∧
    op ≠ 0xD#4 ∧ op ≠ 0xE#4 ∧ op ≠ 0xF#4 := by decide

theorem zeroMask_of_plainOp : ∀ op ∈ plainOps, zeroMask op = 0xFFFFFFFFFFF0#48 := by decide

/-- For an OP below 0xE, illegal is what the mask or SET_BACKGROUND's colour says. -/
theorem illegalWord_iff_mask (hE : fieldOp w ≠ 0xE#4) (hF : fieldOp w ≠ 0xF#4) :
    illegalWord w = true ↔
      w &&& zeroMask (fieldOp w) ≠ 0#48 ∨ (fieldOp w = 0x8#4 ∧ fieldCol w = 3#2) := by
  simp only [fieldOp, fieldCol] at *
  simp [illegalWord, hE, hF]

theorem illegalWord_plain (h : fieldOp w ∈ plainOps) :
    illegalWord w = true ↔ plainFields w = false := by
  obtain ⟨h8, -, -, -, -, hE, hF⟩ := plainOps_ne _ h
  simp [illegalWord_iff_mask hE hF, h8, zeroMask_of_plainOp _ h, ← plainFields_iff_mask]

theorem illegalWord_setBackground (h : fieldOp w = 0x8#4) :
    illegalWord w = true ↔ backgroundFields w = false ∨ fieldCol w = 3#2 := by
  rw [illegalWord_iff_mask (by simp [h]) (by simp [h]), h]
  simp [zeroMask, ← backgroundFields_iff_mask]

theorem illegalWord_setRamArea (h : fieldOp w = 0x9#4) :
    illegalWord w = true ↔ areaFields w = false := by
  rw [illegalWord_iff_mask (by simp [h]) (by simp [h]), h]
  simp [zeroMask, ← areaFields_iff_mask]

theorem illegalWord_setRamCounter (h : fieldOp w = 0xA#4) :
    illegalWord w = true ↔ counterFields w = false := by
  rw [illegalWord_iff_mask (by simp [h]) (by simp [h]), h]
  simp [zeroMask, ← counterFields_iff_mask]

/-- R97: the two unsupported requests have no illegal word. -/
theorem illegalWord_unsupported (h : fieldOp w = 0xC#4 ∨ fieldOp w = 0xD#4) :
    illegalWord w = false := by
  rw [Bool.eq_false_iff, ne_eq]
  obtain h | h := h <;>
    · rw [illegalWord_iff_mask (by simp [h]) (by simp [h]), h]
      simp [zeroMask]

theorem illegalWord_unassigned (h : fieldOp w = 0xE#4 ∨ fieldOp w = 0xF#4) :
    illegalWord w = true := by
  simp only [fieldOp] at h
  obtain h | h := h <;> simp [illegalWord, h]

/-- R96's list of illegal words, field by field. -/
theorem illegalWord_iff_listed (w : ReqWord) : illegalWord w = true ↔
    fieldOp w = 0xE#4 ∨ fieldOp w = 0xF#4 ∨
    (fieldOp w ≠ 0xC#4 ∧ fieldOp w ≠ 0xD#4 ∧ (fieldRsv0 w ≠ 0#2 ∨ fieldRsv1 w ≠ 0#4)) ∨
    (fieldOp w = 0x8#4 ∧
      (fieldCol w = 3#2 ∨ (fieldA0 w ≠ 0#9 ∨ fieldA1 w ≠ 0#9) ∨
        (fieldA2 w ≠ 0#9 ∨ fieldA3 w ≠ 0#9))) ∨
    (fieldOp w = 0x9#4 ∧ fieldCol w ≠ 0#2) ∨
    (fieldOp w = 0xA#4 ∧ (fieldCol w ≠ 0#2 ∨ (fieldA2 w ≠ 0#9 ∨ fieldA3 w ≠ 0#9))) ∨
    (fieldOp w ≠ 0x8#4 ∧ fieldOp w ≠ 0x9#4 ∧ fieldOp w ≠ 0xA#4 ∧ fieldOp w ≠ 0xC#4 ∧
      fieldOp w ≠ 0xD#4 ∧ (fieldCol w ≠ 0#2 ∨ (fieldA0 w ≠ 0#9 ∨ fieldA1 w ≠ 0#9) ∨
        (fieldA2 w ≠ 0#9 ∨ fieldA3 w ≠ 0#9))) := by
  obtain h | h | h | h | h | h | h := op_rows (fieldOp w)
  · obtain ⟨h8, h9, hA, hC, hD, hE, hF⟩ := plainOps_ne _ h
    rw [illegalWord_plain h, ← Bool.not_eq_true, plainFields_iff, coordsZero_iff, reservedZero_iff]
    simp [h8, h9, hA, hC, hD, hE, hF, -not_and, not_and_or, or_comm, or_left_comm, or_assoc]
  · rw [illegalWord_setBackground h, ← Bool.not_eq_true, backgroundFields_iff, coordsZero_iff,
      reservedZero_iff]
    simp [h, -not_and, not_and_or, or_comm, or_left_comm, or_assoc]
  · rw [illegalWord_setRamArea h, ← Bool.not_eq_true, areaFields_iff, reservedZero_iff]
    simp [h, -not_and, not_and_or, or_comm, or_assoc]
  · rw [illegalWord_setRamCounter h, ← Bool.not_eq_true, counterFields_iff, reservedZero_iff]
    simp [h, -not_and, not_and_or, or_comm, or_left_comm, or_assoc]
  · simp [illegalWord_unsupported (.inl h), h]
  · simp [illegalWord_unsupported (.inr h), h]
  · exact iff_of_true (illegalWord_unassigned h) (or_assoc.1 (.inl h))

/-! ## What the rows decode to -/

variable {r : Request} {i : Instr} {ok : Bool}

theorem checkedAs_eq_illegal_iff (hi : i ≠ .illegal w) :
    checkedAs ok w i = .illegal w ↔ ok = false := by
  cases ok <;> simp [checkedAs, hi]

theorem checkedAs_eq_of_pass (h : ok = true) : checkedAs ok w i = i := if_pos h

/-- A checked word is sent back as it came, if the instruction read from it spells it. -/
theorem encode_checkedAs (h : ok = true → ∃ a c, encode i = .request ⟨w, a, c⟩) :
    ∃ a c, encode (checkedAs ok w i) = .request ⟨w, a, c⟩ := by
  cases ok with
  | true => exact h rfl
  | false => exact ⟨[], [], rfl⟩

/-- R92's first row: the word carries OP alone. -/
theorem decodeRequest_plain (h : fieldOp r.word ∈ plainOps) :
    ∃ i, decodeRequest r = checkedAs (plainFields r.word) r.word i ∧ i ≠ .illegal r.word ∧
      ∃ a c, encode i = .request ⟨plainWord (fieldOp r.word), a, c⟩ := by
  simp only [plainOps, List.mem_cons, List.not_mem_nil, or_false] at h
  obtain h | h | h | h | h | h | h | h | h := h
  · exact ⟨_, decodeRequest_init h, nofun, _, _, by rw [h]; rfl⟩
  · exact ⟨_, decodeRequest_wake h, nofun, _, _, by rw [h]; rfl⟩
  · exact ⟨_, decodeRequest_sleep h, nofun, _, _, by rw [h]; rfl⟩
  · exact ⟨_, decodeRequest_updateFrame h, nofun, _, _, by rw [h]; rfl⟩
  · exact ⟨_, decodeRequest_updateColorFrame h, nofun, _, _, by rw [h]; rfl⟩
  · exact ⟨_, decodeRequest_displayFrame h, nofun, _, _, by rw [h]; rfl⟩
  · exact ⟨_, decodeRequest_updateAndDisplayFrame h, nofun, _, _, by rw [h]; rfl⟩
  · exact ⟨_, decodeRequest_clearFrame h, nofun, _, _, by rw [h]; rfl⟩
  · exact ⟨_, decodeRequest_useFullFrame h, nofun, _, _, by rw [h]; rfl⟩

/-- R92's row SET_BACKGROUND: COL is the code of a colour, or 3. -/
theorem decodeRequest_setBackground_cases (h : fieldOp r.word = 0x8#4) :
    (fieldCol r.word = 3#2 ∧ decodeRequest r = .illegal r.word) ∨
    (fieldCol r.word ≠ 3#2 ∧ ∃ c : Color, fieldCol r.word = c.code ∧
      decodeRequest r = checkedAs (backgroundFields r.word) r.word (.setBackground c)) := by
  rw [decodeRequest_setBackground h]
  obtain ⟨hb, hc⟩ | ⟨hb, hc⟩ | ⟨hb, hc⟩ | ⟨hb, hc⟩ := colorOfCode_cases (fieldCol r.word)
  · exact .inr ⟨by simp [hb], .white, hb, by rw [hc]⟩
  · exact .inr ⟨by simp [hb], .black, hb, by rw [hc]⟩
  · exact .inr ⟨by simp [hb], .chromatic, hb, by rw [hc]⟩
  · exact .inl ⟨hb, by rw [hc]⟩

/-- The decoder's field checks and the mask form of R92 and R96 say the same. -/
theorem decodeRequest_eq_illegal_iff :
    decodeRequest r = .illegal r.word ↔ illegalWord r.word = true := by
  obtain h | h | h | h | h | h | h := op_rows (fieldOp r.word)
  · obtain ⟨i, hd, hi, -⟩ := decodeRequest_plain h
    rw [hd, checkedAs_eq_illegal_iff hi, illegalWord_plain h]
  · rw [illegalWord_setBackground h]
    obtain ⟨hcol, hd⟩ | ⟨hcol, c, -, hd⟩ := decodeRequest_setBackground_cases h
    · simp [hcol, hd]
    · rw [hd, checkedAs_eq_illegal_iff (i := .setBackground c) nofun]
      simp [hcol]
  · rw [decodeRequest_setRamArea h, illegalWord_setRamArea h]
    exact checkedAs_eq_illegal_iff nofun
  · rw [decodeRequest_setRamCounter h, illegalWord_setRamCounter h]
    exact checkedAs_eq_illegal_iff nofun
  · simp [decodeRequest_updatePartialFrame h, illegalWord_unsupported (.inl h)]
  · simp [decodeRequest_setLut h, illegalWord_unsupported (.inr h)]
  · simp [decodeRequest_unassigned h, illegalWord_unassigned h]

theorem encode_decodeRequest (hC : fieldOp r.word ≠ 0xC#4) (hD : fieldOp r.word ≠ 0xD#4) :
    ∃ a c, encode (decodeRequest r) = .request ⟨r.word, a, c⟩ := by
  obtain h | h | h | h | h | h | h := op_rows (fieldOp r.word)
  · obtain ⟨i, hd, -, a, c, he⟩ := decodeRequest_plain h
    rw [hd]
    exact encode_checkedAs fun hok => ⟨a, c, by rw [he, plainWord_of_plainFields hok]⟩
  · obtain ⟨-, hd⟩ | ⟨-, c, hcol, hd⟩ := decodeRequest_setBackground_cases h
    · exact ⟨[], [], by rw [hd]; rfl⟩
    · rw [hd]
      refine encode_checkedAs fun hok => ⟨[], [], ?_⟩
      obtain ⟨hcoords, hrsv⟩ := backgroundFields_iff.1 hok
      obtain ⟨h0, h1, h2, h3⟩ := coordsZero_iff.1 hcoords
      rw [encode, assembleWord_of_fields h hcol h0 h1 h2 h3 hrsv]
  · rw [decodeRequest_setRamArea h]
    refine encode_checkedAs fun hok => ⟨[], [], ?_⟩
    obtain ⟨hcol, hrsv⟩ := areaFields_iff.1 hok
    rw [encode, assembleWord_of_fields h hcol rfl rfl rfl rfl hrsv]
  · rw [decodeRequest_setRamCounter h]
    refine encode_checkedAs fun hok => ⟨[], [], ?_⟩
    obtain ⟨hcol, h2, h3, hrsv⟩ := counterFields_iff.1 hok
    rw [encode, assembleWord_of_fields h hcol rfl rfl h2 h3 hrsv]
  · exact absurd h hC
  · exact absurd h hD
  · exact ⟨[], [], by rw [decodeRequest_unassigned h]; rfl⟩

theorem wellFormed_of_ne_illegal (h : ∀ w, i ≠ .illegal w) : wellFormed i = true := by
  cases i with
  | illegal w => exact absurd rfl (h w)
  | _ => rfl

theorem exists_illegal_iff :
    (∃ w, decodeRequest r = .illegal w) ↔ decodeRequest r = .illegal r.word :=
  ⟨fun ⟨_, h⟩ => decodeRequest_illegal_self h ▸ h, fun h => ⟨_, h⟩⟩

theorem decodeRequest_wellFormed (r : Request) : wellFormed (decodeRequest r) = true := by
  by_cases h : ∃ w, decodeRequest r = .illegal w
  · have hd := exists_illegal_iff.1 h
    rw [hd]
    exact decodeRequest_eq_illegal_iff.1 hd
  · exact wellFormed_of_ne_illegal (not_exists.1 h)

/-! ## Decoding what was encoded -/

theorem decode_request_of_checked {q : Request} (hd : decodeRequest q = checkedAs ok w i)
    (hok : ok = true) : decode (.request q) = .ok i :=
  congrArg Except.ok (hd.trans (checkedAs_eq_of_pass hok))

theorem decode_encode_setBackground (c : Color) :
    decode (encode (.setBackground c)) = .ok (.setBackground c) := by
  refine congrArg Except.ok ?_
  rw [decodeRequest_setBackground (fieldOp_assembleWord ..), fieldCol_assembleWord,
    colorOfCode_code]
  exact checkedAs_eq_of_pass (by simp [backgroundFields_iff, coordsZero_iff])

theorem decode_encode_setRamArea (sx sy ex ey : Coord) :
    decode (encode (.setRamArea sx sy ex ey)) = .ok (.setRamArea sx sy ex ey) := by
  refine congrArg Except.ok ?_
  rw [decodeRequest_setRamArea (fieldOp_assembleWord ..), fieldA0_assembleWord,
    fieldA1_assembleWord, fieldA2_assembleWord, fieldA3_assembleWord]
  exact checkedAs_eq_of_pass (by simp [areaFields_iff])

theorem decode_encode_setRamCounter (x y : Coord) :
    decode (encode (.setRamCounter x y)) = .ok (.setRamCounter x y) := by
  refine congrArg Except.ok ?_
  rw [decodeRequest_setRamCounter (fieldOp_assembleWord ..), fieldA0_assembleWord,
    fieldA1_assembleWord]
  exact checkedAs_eq_of_pass (by simp [counterFields_iff])

theorem decode_encode_illegal (h : illegalWord w = true) :
    decode (encode (.illegal w)) = .ok (.illegal w) :=
  congrArg Except.ok (decodeRequest_eq_illegal_iff (r := ⟨w, [], []⟩).2 h)

/-! ## The opcode table (R102) -/

open Laws.OpField (opValue)

theorem opValue_of_statement (hs : Laws.OpField.Statement i) (h : encode i = .request r) :
    opValue i = some (fieldOp r.word) := by
  rw [Laws.OpField.Statement, h] at hs
  exact hs.symm

/-- The word of an encoded request carries its OP. -/
theorem opValue_of_encode (h : encode i = .request r) : opValue i = some (fieldOp r.word) := by
  cases i with
  | init => exact opValue_of_statement Laws.OpField.init h
  | wake => exact opValue_of_statement Laws.OpField.wake h
  | sleep => exact opValue_of_statement Laws.OpField.sleep h
  | updateFrame _ => exact opValue_of_statement (Laws.OpField.updateFrame _) h
  | updateColorFrame _ _ => exact opValue_of_statement (Laws.OpField.updateColorFrame _ _) h
  | displayFrame => exact opValue_of_statement Laws.OpField.displayFrame h
  | updateAndDisplayFrame _ =>
    exact opValue_of_statement (Laws.OpField.updateAndDisplayFrame _) h
  | clearFrame => exact opValue_of_statement Laws.OpField.clearFrame h
  | setBackground _ => exact opValue_of_statement (Laws.OpField.setBackground _) h
  | setRamArea _ _ _ _ => exact opValue_of_statement (Laws.OpField.setRamArea _ _ _ _) h
  | setRamCounter _ _ => exact opValue_of_statement (Laws.OpField.setRamCounter _ _) h
  | useFullFrame => exact opValue_of_statement Laws.OpField.useFullFrame h
  | updatePartialFrame => exact opValue_of_statement Laws.OpField.updatePartialFrame h
  | setLut => exact opValue_of_statement Laws.OpField.setLut h
  | illegal _ => exact opValue_of_statement (Laws.OpField.illegal _) h
  | _ => cases h

/-- The decoder keeps OP: outside the unsupported two because it keeps the whole word. -/
theorem opValue_decodeRequest (r : Request) :
    opValue (decodeRequest r) = some (fieldOp r.word) := by
  by_cases hC : fieldOp r.word = 0xC#4
  · rw [decodeRequest_updatePartialFrame hC, hC]; rfl
  by_cases hD : fieldOp r.word = 0xD#4
  · rw [decodeRequest_setLut hD, hD]; rfl
  obtain ⟨a, c, he⟩ := encode_decodeRequest hC hD
  exact opValue_of_encode (r := ⟨r.word, a, c⟩) he

/-- The table's mask leaves OP. -/
theorem and_opMask (w : ReqWord) : w &&& 0xF#48 = (fieldOp w).setWidth 48 := by
  apply BitVec.eq_of_toNat_eq
  have hmod : w.toNat &&& 15 = w.toNat % 16 := Nat.and_two_pow_sub_one_eq_mod w.toNat 4
  simp [fieldOp, hmod]
  omega

theorem rowOfWord_eq (w : ReqWord) :
    rowOfWord w = requestRows.find? fun row => fieldOp w == row.2 := by
  have hinj (a b : BitVec 4) : a.setWidth 48 = b.setWidth 48 ↔ a = b :=
    ⟨fun h => by simpa using congrArg (BitVec.setWidth 4) h, congrArg _⟩
  simp [rowOfWord, and_opMask, hinj, beq_eq_decide]

theorem exists_rowOfWord (w : ReqWord) : ∃ row, rowOfWord w = some row := by
  have hrows : ∀ op : BitVec 4, (requestRows.find? fun row => op == row.2).isSome := by decide
  rw [rowOfWord_eq]
  exact Option.isSome_iff_exists.1 (hrows _)

/-- A request's OP picks the row of its mnemonic. -/
theorem rowOfWord_of_opValue (h : opValue i = some (fieldOp w)) (hi : ∀ v, i ≠ .illegal v) :
    rowOfWord w = some (mnemonic i, fieldOp w) := by
  cases i with
  | illegal v => exact absurd rfl (hi v)
  | init | wake | sleep | updateFrame | updateColorFrame | displayFrame | updateAndDisplayFrame
  | clearFrame | setBackground | setRamArea | setRamCounter | useFullFrame | updatePartialFrame
  | setLut => rw [rowOfWord_eq, ← Option.some.inj h]; rfl
  | _ => cases h

/-! ## Panel command bytes (R100) -/

/-- OPC's byte of a name decodes to the first name with that byte. -/
theorem decodePanelByte_opc (p : PanelOp) :
    ∃ q, decodePanelByte (Config.opc p) = some (panelInstr q) ∧ Config.opc q = Config.opc p := by
  have hsome : (PanelOp.all.find? fun q => Config.opc q == Config.opc p).isSome :=
    List.find?_isSome.2 ⟨p, PanelOp.mem_all p, beq_self_eq_true _⟩
  obtain ⟨q, hq⟩ := Option.isSome_iff_exists.1 hsome
  exact ⟨q, by rw [decodePanelByte, hq]; rfl, by simpa using List.find?_some hq⟩

end Sys2Proof
end

section
namespace Sys2Proof.Machine

/-- Settles O2: each request's word has the OP and passes the field check of its own row; an illegal
word is illegal in the decoder's reading too. -/
theorem decodeOfEncodeIsTheRequest : Obligations.DecodeOfEncodeIsTheRequest := by
  intro i hi hwf
  have hop := fieldOp_plainWord
  have hpass := plainFields_plainWord
  cases i with
  | init => exact decode_request_of_checked (decodeRequest_init (hop _)) (hpass _)
  | wake => exact decode_request_of_checked (decodeRequest_wake (hop _)) (hpass _)
  | sleep => exact decode_request_of_checked (decodeRequest_sleep (hop _)) (hpass _)
  | updateFrame a => exact decode_request_of_checked (decodeRequest_updateFrame (hop _)) (hpass _)
  | updateColorFrame a c =>
    exact decode_request_of_checked (decodeRequest_updateColorFrame (hop _)) (hpass _)
  | displayFrame => exact decode_request_of_checked (decodeRequest_displayFrame (hop _)) (hpass _)
  | updateAndDisplayFrame a =>
    exact decode_request_of_checked (decodeRequest_updateAndDisplayFrame (hop _)) (hpass _)
  | clearFrame => exact decode_request_of_checked (decodeRequest_clearFrame (hop _)) (hpass _)
  | setBackground c => exact decode_encode_setBackground c
  | setRamArea sx sy ex ey => exact decode_encode_setRamArea sx sy ex ey
  | setRamCounter x y => exact decode_encode_setRamCounter x y
  | useFullFrame => exact decode_request_of_checked (decodeRequest_useFullFrame (hop _)) (hpass _)
  | updatePartialFrame => exact congrArg Except.ok (decodeRequest_updatePartialFrame (hop _))
  | setLut => exact congrArg Except.ok (decodeRequest_setLut (hop _))
  | illegal w => exact decode_encode_illegal hwf
  | _ => cases hi

/-- Settles O4. -/
theorem encodeOfDecodeIsTheWord : Obligations.EncodeOfDecodeIsTheWord :=
  fun _ => encode_decodeRequest

/-- Settles O6. -/
theorem everyWordIsARequestOrIllegal : Obligations.EveryWordIsARequestOrIllegal :=
  fun r => ⟨decodeRequest_isRequest r, decodeRequest_wellFormed r,
    exists_illegal_iff.trans decodeRequest_eq_illegal_iff⟩

/-- Settles O7: the decoder keeps OP, and OP picks the row. -/
theorem tableRowNamesTheRequest : Obligations.TableRowNamesTheRequest := by
  intro r
  by_cases h : ∃ w, decodeRequest r = .illegal w
  · obtain ⟨row, hrow⟩ := exists_rowOfWord r.word
    exact ⟨row, hrow, .inr (exists_illegal_iff.1 h)⟩
  · exact ⟨_, rowOfWord_of_opValue (opValue_decodeRequest r) (not_exists.1 h), .inl rfl⟩

/-- Settles O3. -/
theorem panelByteDecodesUpToOpc : Obligations.PanelByteDecodesUpToOpc := by
  intro p
  obtain ⟨q, hq, hopc⟩ := decodePanelByte_opc p
  exact ⟨q, by rw [encode_panelInstr, decode, hq], hopc⟩

theorem reqReady_iff {s : State} : s.reqReady = true ↔ s.state.executes = false := by
  simp [State.reqReady, State.execFlag]

/-- 60_exceptions.md R224. -/
theorem exec_illegal_of_ready {s : State} (w : ReqWord) (hr : s.state.executes = false)
    (hf : s.state ≠ .fault) : exec (.illegal w) s = .next (s.respond (.err .illegal)) := by
  rw [exec_illegal, takeRequest_of_ready hr hf, State.raise_illegal]

/-- Settles O5: the decoder's illegal words are those of the mask form, and these the listed ones. -/
theorem illegalWordsAreThoseOfTheList : Obligations.IllegalWordsAreThoseOfTheList := by
  refine fun r => ⟨decodeRequest_eq_illegal_iff.trans (illegalWord_iff_listed r.word),
    fun hd s hs hf => ?_⟩
  rw [hd]
  exact exec_illegal_of_ready _ (reqReady_iff.1 hs) hf

/-- The states that take a request and are not FAULT (60_exceptions.md R223). -/
theorem ready_of_takes {x : FsmState} (h : x = .uninit ∨ x = .idle ∨ x = .sleeping) :
    x.executes = false ∧ x ≠ .fault := by
  obtain rfl | rfl | rfl := h <;> exact ⟨rfl, nofun⟩

/-- Settles O27. -/
theorem unsupportedRequestsAlwaysFail : Obligations.UnsupportedRequestsAlwaysFail := by
  refine ⟨fun s hs => ?_, fun s hf => ⟨exec_of_fault rfl hf, exec_of_fault rfl hf⟩,
    fun _ => decodeRequest_updatePartialFrame, fun _ => decodeRequest_setLut⟩
  obtain ⟨hr, hf⟩ := ready_of_takes hs
  exact ⟨(exec_updatePartialFrame s).trans (takeRequest_of_ready hr hf),
    (exec_setLut s).trans (takeRequest_of_ready hr hf)⟩

/-- 40_sequencer.md R124 for a panel command: a Cmd step answered ok. -/
theorem exec_panelInstr_ok (p : PanelOp) {s : State} (h : s.env.txOutcome = .ok) :
    exec (panelInstr p) s = .next { s with
      trace := s.trace ++ [.tx (.cmd p)]
      seqPc := s.seqPc + 1
      env := s.env.popTx } :=
  (exec_panelInstr p s).trans (performTx_ok h)

/-- Settles O34. -/
theorem configurationCommandsComplete : Obligations.ConfigurationCommandsComplete :=
  fun _ h => ⟨exec_panelInstr_ok .swReset h, exec_panelInstr_ok .driverOutputControl h,
    exec_panelInstr_ok .dataEntryMode h, exec_panelInstr_ok .borderWaveform h,
    exec_panelInstr_ok .tempSensorSource h, exec_panelInstr_ok .tempSensorControl h⟩

/-- Settles O35. -/
theorem addressAndPlaneCommandsComplete : Obligations.AddressAndPlaneCommandsComplete :=
  fun _ h => ⟨exec_panelInstr_ok .ramXWindow h, exec_panelInstr_ok .ramYWindow h,
    exec_panelInstr_ok .ramXCounter h, exec_panelInstr_ok .ramYCounter h,
    exec_panelInstr_ok .writeRam1 h, exec_panelInstr_ok .writeRam2 h⟩

/-- Settles O36. -/
theorem displayAndSleepCommandsComplete : Obligations.DisplayAndSleepCommandsComplete :=
  fun _ h => ⟨exec_panelInstr_ok .displayUpdateControl2 h, exec_panelInstr_ok .masterActivation h,
    exec_panelInstr_ok .nop h, exec_panelInstr_ok .deepSleep h⟩

end Sys2Proof.Machine
end

/-! The sequencer (40_sequencer.md): the single steps of an executing block, what no step does of its
own, and the runs of a loaded script to its end, to a failed transaction, through a Wait and under
panel fairness. -/

section
namespace Sys2Proof.Machine

/-! ## The steps of an executing block (40_sequencer.md R122 to R127) -/

section Executing
variable {s : State} (hr : s.env.rstAsserted = false) (he : s.state.executes = true)
include hr he

theorem step_rst {tl th : Nat} (hx : s.currentStep = some (.rst tl th)) :
    step s = .next ({ s.withEnv s.env.popRst with panelRst := true }.emit (.rst tl th)).advance :=
  (step_of_executes hr he).trans (performCurrent_rst hx)

theorem step_tx {x : Tx} (hx : s.currentStep = some (.tx x)) :
    step s = performTx x (s.withEnv s.env.popRst) :=
  (step_of_executes hr he).trans (performCurrent_tx hx)

/-- A panel command at SEQ_PC is run as the instruction it is (R124). -/
theorem step_cmd {p : PanelOp} (hx : s.currentStep = some (.tx (.cmd p))) :
    step s = exec (panelInstr p) (s.withEnv s.env.popRst) := by
  rw [exec_panelInstr]
  exact step_tx hr he hx

theorem step_tx_ok {x : Tx} (hx : s.currentStep = some (.tx x)) (ho : s.env.txOutcome = .ok) :
    step s = .next ((s.withEnv s.env.popRst.popTx).emit (.tx x)).advance :=
  (step_tx hr he hx).trans (performTx_ok ho)

theorem step_tx_err {x : Tx} (hx : s.currentStep = some (.tx x)) (ho : s.env.txOutcome = .err) :
    step s = .next (((s.withEnv s.env.popRst.popTx).emit (.txfail x)).raise .transport) :=
  (step_tx hr he hx).trans (performTx_err ho)

section AtWait
variable (hx : s.currentStep = some .wait)
include hx

theorem step_wait : step s = performWait (s.withEnv s.env.popRst) :=
  (step_of_executes hr he).trans (performCurrent_wait hx)

theorem step_wait_idle (hb : s.env.busyLevel = false) :
    step s = .next ((s.withEnv s.env.popRst.popBusy).emit .wait).advance :=
  (step_wait hr he hx).trans (performWait_idle hb)

theorem step_wait_hold (hb : s.env.busyLevel = true) (ht : s.busyTimeoutEn = false) :
    step s = .next (s.withEnv s.env.popRst.popBusy) :=
  (step_wait hr he hx).trans (performWait_hold hb ht)

/-- R123: at a busy sample the opt-in timeout fires as the draw says. -/
theorem step_wait_timed (hb : s.env.busyLevel = true) (ht : s.busyTimeoutEn = true) :
    step s = if s.env.popBusy.timeoutFires then
        .next (((s.withEnv s.env.popRst.popBusy.popTimeout).emit .timeout).raise .timeout)
      else .next (s.withEnv s.env.popRst.popBusy.popTimeout) := by
  rw [← Env.popRst_popBusy_timeoutFires]
  exact (step_wait hr he hx).trans (performWait_busy_en hb ht)

/-- R122: no WAIT is recorded at a busy sample. -/
theorem step_wait_busy_trace_ne (hb : s.env.busyLevel = true) {t : State} (h : step s = .next t) :
    t.trace ≠ s.trace ++ [.wait] := by
  cases ht : s.busyTimeoutEn with
  | false =>
    rw [step_wait_hold hr he hx hb ht] at h
    cases h
    simp
  | true =>
    rw [step_wait_timed hr he hx hb ht] at h
    split at h <;> cases h <;> simp

end AtWait

theorem step_end (hend : s.seqPc = s.script.length) :
    step s = .next (s.withEnv s.env.popRst).complete :=
  (step_of_executes hr he).trans (performCurrent_end hend)

end Executing

/-- Settles O8. -/
theorem stepRunsTheDecodedInstruction : Obligations.StepRunsTheDecodedInstruction := by
  refine ⟨fun s r rest hr hs hq => ?_, fun s p hr he hx => step_cmd hr he hx⟩
  have henv : s.env.popRst.popReq = { s.env with rstIn := s.env.rstIn.tail, reqs := rest } := by
    simp [Env.popRst, Env.popReq, hq]
  rw [step_of_offer hr (reqReady_iff.1 hs) hq, henv]
  rfl

/-- Settles O33. -/
theorem transportFailureAborts : Obligations.TransportFailureAborts :=
  fun _ _ hr he hx ho => ⟨_, step_tx_err hr he hx ho, rfl, rfl, rfl, rfl, rfl, rfl, rfl,
    by simp, rfl, rfl⟩

/-- Settles O37. -/
theorem transactionStepsAsSpecified : Obligations.TransactionStepsAsSpecified :=
  fun _ hr he => ⟨fun _ _ hx => step_rst hr he hx,
    fun _ hx => ⟨step_tx_ok hr he hx, step_tx_err hr he hx⟩⟩

/-- Settles O39. -/
theorem timeoutOnlyAtABusySample : Obligations.TimeoutOnlyAtABusySample := by
  refine fun s hr he hx ht => ⟨fun hb hf => ?_, fun hb hf => ?_, step_wait_idle hr he hx⟩
  · rw [step_wait_timed hr he hx hb ht, if_pos hf]
    rfl
  · rw [step_wait_timed hr he hx hb ht, if_neg (by simp [hf])]
    rfl

/-- Settles O40: the invariant makes RET_STATE a state of a ready block. -/
theorem completionAnswersOk : Obligations.CompletionAnswersOk := by
  intro s h hr he hend
  have hready : s.retState.executes = false := by rw [h.retOfReq he, retStateOf_executes]
  exact ⟨_, step_end hr he hend, rfl, rfl, rfl, rfl, reqReady_iff.2 hready, rfl, rfl, rfl, rfl⟩

/-! ## What every step of an executing block keeps, and that there is always one -/

theorem ScriptEffect.reqs_eq {s t : State} (h : ScriptEffect s t) : t.env.reqs = s.env.reqs := by
  cases h with
  | held e hx hq => exact hq
  | rst => rfl
  | waited => simp
  | timedOut => simp
  | sent => simp
  | failed => simp
  | completed => rfl

/-- R121: the loaded request, its script and its return state stay. -/
theorem ScriptEffect.load_eq {s t : State} (h : ScriptEffect s t) :
    t.script = s.script ∧ t.curReq = s.curReq ∧ t.retState = s.retState := by
  cases h <;> exact ⟨rfl, rfl, rfl⟩

/-- Settles O9. -/
theorem offersStayWhileExecuting : Obligations.OffersStayWhileExecuting := by
  intro s t he h
  obtain ⟨_, rfl⟩ | ⟨_, _, ht⟩ | ⟨_, hrest, _⟩ | ⟨_, hrest, _⟩ := step_cases h
  · rfl
  · exact ht.reqs_eq
  · simp [he] at hrest
  · simp [he] at hrest

theorem retStateOf_eq (i : Instr) : retStateOf i = if i = .sleep then .sleeping else .idle := by
  cases i <;> rfl

theorem execState_eq (i : Instr) :
    execState i = if i = .init ∨ i = .wake then .initializing else .busy := by
  cases i <;> simp [execState]

/-- A ready block that starts to execute has loaded the request. -/
theorem RequestEffect.loaded_of_executes {i : Instr} {s t : State} (h : RequestEffect i s t)
    (hr : s.state.executes = false) (he : t.state.executes = true) :
    hasScript i = true ∧ t = loadScript i s := by
  cases h with
  | notTaken hs => simp [hr] at hs
  | answered e hs => simp [hr] at he
  | faulted p hs => cases he
  | background c hs => simp [hr] at he
  | loaded ha ho hs => exact ⟨hs, rfl⟩

/-- Settles O45. -/
theorem scriptIsFixedWhileItRuns : Obligations.ScriptIsFixedWhileItRuns := by
  refine ⟨fun s t hr he h => ?_, fun i s t hi hready h he => ?_⟩
  · have ht := performCurrent_effect ((step_of_executes hr he).symm.trans h)
    obtain ⟨hscript, hreq, hret⟩ := ht.load_eq
    exact ⟨hscript, hreq, hret, ht.bg_eq⟩
  · obtain ⟨hs, rfl⟩ :=
      (exec_request_effect hi h).loaded_of_executes (reqReady_iff.1 hready) he
    exact ⟨rfl, rfl, scriptOf_ne_nil hs _, rfl, retStateOf_eq i, execState_eq i⟩

/-- R125: with SEQ_PC within the script, or at its end, the block has a step. -/
theorem performCurrent_next {s : State} (hpc : s.seqPc ≤ s.script.length) :
    ∃ t, performCurrent s = .next t := by
  cases hx : s.currentStep with
  | none =>
    have hlen : s.script.length ≤ s.seqPc := List.getElem?_eq_none_iff.1 hx
    exact ⟨_, performCurrent_end (Nat.le_antisymm hpc hlen)⟩
  | some x =>
    cases x with
    | rst tl th => exact ⟨_, performCurrent_rst hx⟩
    | wait =>
      rw [performCurrent_wait hx]
      obtain h | h | h | h := performWait_cases s <;> exact ⟨_, h⟩
    | tx x =>
      rw [performCurrent_tx hx]
      cases ho : s.env.txOutcome with
      | ok => exact ⟨_, performTx_ok ho⟩
      | err => exact ⟨_, performTx_err ho⟩

/-- Settles O49. -/
theorem stepNeverStops : Obligations.StepNeverStops := by
  intro s h
  cases hr : s.env.rstAsserted with
  | true => exact ⟨_, step_of_reset hr⟩
  | false =>
    cases he : s.state.executes with
    | true =>
      rw [step_of_executes hr he]
      exact performCurrent_next (h.pcInScript he)
    | false =>
      cases hq : s.env.reqs with
      | nil => exact ⟨_, step_of_nothing hr he hq⟩
      | cons r rest =>
        rw [step_of_offer hr he hq]
        exact exec_request_next (decodeRequest_isRequest r) _

/-! ## What a step emits that performs no step of a script (R128, R131) -/

theorem RequestEffect.trace_eq {i : Instr} {s t : State} (h : RequestEffect i s t) :
    t.trace = s.trace := by
  cases h <;> rfl

theorem step_trace_of_ready {s t : State} (hr : s.env.rstAsserted = false)
    (hrest : s.state.executes = false) (h : step s = .next t) : t.trace = s.trace := by
  obtain ⟨hr', _⟩ | ⟨_, he, _⟩ | ⟨_, _, _, rfl⟩ | ⟨_, _, _, _, _, _, ht⟩ := step_cases h
  · rw [hr] at hr'; cases hr'
  · rw [hrest] at he; cases he
  · rfl
  · exact ht.trace_eq

/-- 70_reset_and_hazards.md R261: what could have reached the panel before a block reset still can. -/
theorem blockReset_keeps_panelReceived {s : State} {bs : List WireByte} (h : s.panelReceived bs) :
    (blockReset s).panelReceived bs := by
  refine (blockReset_panelReceived s bs).2 ⟨0, bs, ?_, h⟩
  cases s.inProgress <;> simp [cutWire]

/-- 70_reset_and_hazards.md R261, 20_memory.md R67: and so can the bytes of the transaction cut off, up
to any point. -/
theorem blockReset_panelReceived_cut {s : State} {x : Tx} {bs : List WireByte} (k : Nat)
    (he : s.state.executes = true) (hx : s.currentStep = some (.tx x)) (h : s.panelReceived bs) :
    (blockReset s).panelReceived (bs ++ x.wire.take k) :=
  (blockReset_panelReceived s _).2 ⟨k, bs, by rw [State.inProgress_of_tx he hx]; rfl, h⟩

/-- Settles O10. -/
theorem noStepOfItsOwn : Obligations.NoStepOfItsOwn := by
  refine ⟨fun s t => step_trace_of_ready, fun s => step_of_nothing, fun s t hr h => ?_⟩
  obtain rfl : blockReset (s.withEnv s.env.popRst) = t :=
    Host.Outcome.next.inj ((step_of_reset hr).symm.trans h)
  exact ⟨rfl, fun _ hbs => blockReset_keeps_panelReceived hbs,
    fun x k _ he hx hbs => blockReset_panelReceived_cut k he hx hbs⟩

/-! ## A Wait holds through busy samples (R122) -/

/-- `n` busy samples are `n` steps that change nothing but the inputs. -/
theorem run_of_busy {bs : List Bool} : ∀ (n : Nat) (s : State), s.state.executes = true →
    s.currentStep = some .wait → s.busyTimeoutEn = false → s.env.noReset →
    s.env.busyIn = List.replicate n true ++ bs →
    ∃ e : Env, Host.Core.run Sys2Proof.core n s = .next (s.withEnv e) ∧ e.busyIn = bs ∧ e.noReset
  | 0, s, _, _, _, hn, hb => ⟨s.env, rfl, hb, hn⟩
  | n + 1, s, he, hx, ht, hn, hb => by
    have hstep := step_wait_hold hn.rstAsserted he hx (Env.busyLevel_cons hb) ht
    obtain ⟨e, hrun, hrest⟩ := run_of_busy (bs := bs) n (s.withEnv s.env.popRst.popBusy) he hx ht
      (hn.tail (by simp)) (by simp [hb, List.replicate_succ])
    exact ⟨e, (run_succ hstep).trans hrun, hrest⟩

/-- Settles O38. -/
theorem waitCompletesOnlyOnIdle : Obligations.WaitCompletesOnlyOnIdle := by
  refine ⟨by decide, rfl, fun s hr he hx => ?_, fun s n bs hn he hx ht hb => ?_⟩
  · exact ⟨step_wait_idle hr he hx, step_wait_hold hr he hx,
      fun hb _ => step_wait_busy_trace_ne hr he hx hb⟩
  · obtain ⟨e, hrun, hbs, _⟩ := run_of_busy n s he hx ht hn hb
    exact ⟨_, hrun, rfl, rfl, rfl, rfl, hbs⟩

/-- Settles O53. -/
theorem busyHoldLastsUntilIdle : Obligations.BusyHoldLastsUntilIdle := by
  intro s n bs he ht hn hx hb
  obtain ⟨e, hrun, hbs, hne⟩ := run_of_busy n s he hx ht hn hb
  refine ⟨⟨_, hrun, rfl, rfl, rfl, rfl⟩, _,
    (run_add Sys2Proof.core n 1 s _ hrun).trans (run_one (step_wait_idle (s := s.withEnv e)
      hne.rstAsserted he hx (Env.busyLevel_cons hbs))), rfl, rfl, rfl, rfl, ?_⟩
  simp [hbs]

end Sys2Proof.Machine
end

section
namespace Sys2Proof.Machine

/-! ## Runs under inputs that are known to go well, up to a point (R122 to R127) -/

/-- Settles O50: the script as one stretch, then the step of completion. -/
theorem loadedScriptRunsToItsEnd : Obligations.LoadedScriptRunsToItsEnd := by
  intro s bs ts he hpc hc
  obtain ⟨u, hrun, hst, hscript, hupc, htrace, hrsp, hret, hbg, hcause, hreqs, hn, hbusy, htx⟩ :=
    run_of_calm s.script s [] he (by simp [hpc]) hc
  have hend : u.seqPc = u.script.length := by rw [hupc, hscript, hpc, Nat.zero_add]
  have hlast := run_one (step_end hn.rstAsserted (hst ▸ he) hend)
  exact ⟨_, (run_add Sys2Proof.core _ 1 s u hrun).trans hlast, htrace, by simp [hrsp], rfl, hret,
    rfl, hbg, hcause, hreqs, hbusy, htx⟩

/-- Settles O51: one step takes the request and loads its script, which then runs to its end. -/
theorem acceptedRequestRunsToItsResponse : Obligations.AcceptedRequestRunsToItsResponse := by
  intro s r rest bs ts hq ha ho ⟨hn, hbusy, htx⟩
  have hload : step s = .next (loadScript (decodeRequest r) (s.withEnv s.env.popRst.popReq)) :=
    (step_of_offer hn.rstAsserted (acceptedIn_ready ha).1 hq).trans (exec_of_accepted ha ho)
  obtain ⟨t, hrun, htrace, hrsp, hlast, hst, _, hbg, hcause, hreqs, _⟩ :=
    loadedScriptRunsToItsEnd (loadScript (decodeRequest r) (s.withEnv s.env.popRst.popReq)) bs ts
      (execState_executes _) rfl ⟨hn.tail rfl, hbusy, htx⟩
  exact ⟨t, (run_succ hload).trans hrun, htrace, hrsp, hlast, hst, hbg, hcause,
    hreqs.trans (congrArg List.tail hq)⟩

/-- Settles O52: the steps before the transaction as one stretch, then its failure. -/
theorem failedStepEndsTheTrace : Obligations.FailedStepEndsTheTrace := by
  intro s k x bs ts he hpc hx hc
  obtain ⟨u, hrun, hst, hscript, hupc, htrace, hrsp, _, hbg, _, hreqs, hn, _, htx⟩ :=
    run_of_calm (s.script.take k) s (s.script.drop k) he (by simp [hpc]) hc
  have hlen : (s.script.take k).length = k :=
    List.length_take_of_le (Nat.le_of_lt (List.getElem?_eq_some_iff.1 hx).1)
  rw [hlen] at hrun hupc
  have hux : u.currentStep = some (.tx x) := by
    rw [State.currentStep, hscript, hupc, hpc, Nat.zero_add, hx]
  have hfail := run_one
    (step_tx_err hn.rstAsserted (hst ▸ he) hux (Env.txOutcome_cons htx))
  exact ⟨_, (run_add Sys2Proof.core k 1 s u hrun).trans hfail, by simp [htrace], by simp [hrsp],
    rfl, rfl, rfl, hbg, by simp [hreqs]⟩

end Sys2Proof.Machine
end

section
namespace Sys2Proof.Machine

/-! ## Panel fairness ends every request (R125)

A run of an executing block is a row of completed steps (`Performs`) and then an end (`EndsWith`). The
ends that the rest of a script can have are listed in `Ending`, by recursion over that rest. -/

/-- `t` is `s` after completed steps of the script, whose events are `es`. -/
structure State.Performs (s : State) (es : List Event) (t : State) : Prop where
  state : t.state = s.state
  script : t.script = s.script
  seqPc : t.seqPc = s.seqPc + es.length
  retState : t.retState = s.retState
  timed : t.busyTimeoutEn = s.busyTimeoutEn
  bg : t.bg = s.bg
  faultCause : t.faultCause = s.faultCause
  trace : t.trace = s.trace ++ es
  responses : t.responses = s.responses
  reqs : t.env.reqs = s.env.reqs

/-- The request that executes in `s` has ended in `t`: with the one response `c`, in the state `x`,
`es` recorded since. -/
structure State.EndsWith (s : State) (c : Rsp) (x : FsmState) (es : List Event) (t : State) :
    Prop where
  responses : t.responses = s.responses ++ [c]
  lastRsp : t.lastRsp = c
  seqPc : t.seqPc = 0
  bg : t.bg = s.bg
  faultCause : t.faultCause = s.faultCause
  reqs : t.env.reqs = s.env.reqs
  state : t.state = x
  trace : t.trace = s.trace ++ es

theorem State.Performs.endsWith {s u t : State} {c : Rsp} {x : FsmState} {es fs : List Event}
    (h : s.Performs es u) (ht : u.EndsWith c x fs t) : s.EndsWith c x (es ++ fs) t where
  responses := by rw [ht.responses, h.responses]
  lastRsp := ht.lastRsp
  seqPc := ht.seqPc
  bg := ht.bg.trans h.bg
  faultCause := ht.faultCause.trans h.faultCause
  reqs := ht.reqs.trans h.reqs
  state := ht.state
  trace := by rw [ht.trace, h.trace, List.append_assoc]

/-- The collaborator answers some of the transactions of `m` other than ok. -/
def Env.answersNotOk (e : Env) (m : List ScriptStep) : Prop :=
  ∀ ts, e.txIn ≠ List.replicate (txCount m) .ok ++ ts

/-- How a request can end whose remaining steps are `m`: the response, the state, the events. -/
inductive Ending (s : State) (m : List ScriptStep) : Rsp → FsmState → List Event → Prop where
  | completed : Ending s m .ok s.retState (m.map ScriptStep.event)
  | failed (done : List ScriptStep) (x : Tx) (rest : List ScriptStep)
      (hm : m = done ++ .tx x :: rest) (ho : s.env.answersNotOk m) :
      Ending s m (.err .transport) .uninit (done.map ScriptStep.event ++ [.txfail x])
  | timedOut (done rest : List ScriptStep) (hm : m = done ++ .wait :: rest)
      (ht : s.busyTimeoutEn = true) :
      Ending s m (.err .timeout) .uninit (done.map ScriptStep.event ++ [.timeout])

/-- An answer other than ok that comes after the step `y` is one that comes. -/
theorem Env.answersNotOk.cons {e e' : Env} {y : ScriptStep} {m : List ScriptStep}
    (h : e'.answersNotOk m) (he : e'.txIn = e.txIn.drop y.isTx.toNat) :
    e.answersNotOk (y :: m) := by
  intro ts hts
  refine h ts ?_
  rw [he, hts, txCount_cons, List.replicate_add, List.append_assoc,
    List.drop_left' List.length_replicate]

theorem Env.answersNotOk_of_err {e : Env} {x : Tx} {m : List ScriptStep}
    (h : e.txOutcome = .err) : e.answersNotOk (.tx x :: m) := by
  intro ts hts
  have hok : e.txOutcome = .ok :=
    Env.txOutcome_cons (os := List.replicate (txCount m) .ok ++ ts) (by
      rw [hts, txCount_cons, Nat.add_comm]; rfl)
  rw [h] at hok
  cases hok

/-- An end of what remains after the step `y` is an end with `y` before it. -/
theorem Ending.cons {s u : State} {y : ScriptStep} {m : List ScriptStep} {c : Rsp} {x : FsmState}
    {es : List Event} (h : Ending u m c x es) (hu : s.Performs [y.event] u)
    (htx : u.env.txIn = s.env.txIn.drop y.isTx.toNat) :
    Ending s (y :: m) c x (y.event :: es) := by
  cases h with
  | completed => rw [hu.retState]; exact .completed
  | failed done x rest hm ho => exact .failed (y :: done) x rest (by rw [hm]; rfl) (ho.cons htx)
  | timedOut done rest hm ht =>
    exact .timedOut (y :: done) rest (by rw [hm]; rfl) (hu.timed.symm.trans ht)

/-- Some number of steps ends the request, in one of the ways that `m` leaves. -/
def State.RequestEnds (s : State) (m : List ScriptStep) : Prop :=
  ∃ n t c x es, Host.Core.run Sys2Proof.core n s = .next t ∧ s.EndsWith c x es t ∧ Ending s m c x es

theorem State.RequestEnds.cons {s u : State} {k : Nat} {y : ScriptStep} {m : List ScriptStep}
    (h : u.RequestEnds m) (hrun : Host.Core.run Sys2Proof.core k s = .next u)
    (hu : s.Performs [y.event] u) (htx : u.env.txIn = s.env.txIn.drop y.isTx.toNat) :
    s.RequestEnds (y :: m) := by
  obtain ⟨n, t, c, x, es, hn, ht, hes⟩ := h
  exact ⟨k + n, t, c, x, _, (run_add Sys2Proof.core k n s u hrun).trans hn, hu.endsWith ht,
    hes.cons hu htx⟩

theorem State.currentStep_of_drop {s : State} {y : ScriptStep} {m : List ScriptStep}
    (hd : s.script.drop s.seqPc = y :: m) : s.currentStep = some y := by
  rw [State.currentStep, ← List.head?_drop, hd]
  rfl

theorem requestEnds_nil {s : State} (he : s.state.executes = true) (hn : s.env.noReset)
    (hpc : s.seqPc ≤ s.script.length) (hd : s.script.drop s.seqPc = []) : s.RequestEnds [] := by
  have hend : s.seqPc = s.script.length := Nat.le_antisymm hpc (List.drop_eq_nil_iff.1 hd)
  exact ⟨1, _, .ok, s.retState, [], run_one (step_end hn.rstAsserted he hend),
    ⟨rfl, rfl, rfl, rfl, rfl, rfl, rfl, by simp⟩, .completed⟩

/-- The step `y` under fairness: the run completes it, from where `hgo` goes on, or it ends the
request. -/
theorem requestEnds_cons {s : State} {y : ScriptStep} {m : List ScriptStep}
    (he : s.state.executes = true) (hn : s.env.noReset) (hf : s.panelFair)
    (hx : s.currentStep = some y)
    (hgo : ∀ {k : Nat} {u : State}, Host.Core.run Sys2Proof.core k s = .next u →
      s.Performs [y.event] u → u.env.noReset → u.env.txIn = s.env.txIn.drop y.isTx.toNat →
      s.RequestEnds (y :: m)) :
    s.RequestEnds (y :: m) := by
  have hr := hn.rstAsserted
  cases y with
  | rst tl th =>
    exact hgo (run_one (step_rst hr he hx)) ⟨rfl, rfl, rfl, rfl, rfl, rfl, rfl, rfl, rfl, rfl⟩
      (hn.tail rfl) rfl
  | tx x =>
    cases ho : s.env.txOutcome with
    | ok =>
      exact hgo (run_one (step_tx_ok hr he hx ho))
        ⟨rfl, rfl, rfl, rfl, rfl, rfl, rfl, rfl, rfl, by simp⟩ (hn.tail (by simp))
        (by simp [ScriptStep.isTx])
    | err =>
      exact ⟨1, _, _, _, _, run_one (step_tx_err hr he hx ho),
        ⟨rfl, rfl, rfl, rfl, rfl, by simp, rfl, rfl⟩,
        .failed [] x m rfl (Env.answersNotOk_of_err ho)⟩
  | wait =>
    obtain ⟨n, hi⟩ := hf 0 s rfl he hx
    obtain ⟨k, e, ⟨hrun, hq, htx, hne⟩ | ⟨ht, hrun, hq⟩⟩ := wait_ends n s he hx hn hi
    · exact hgo hrun ⟨rfl, rfl, rfl, rfl, rfl, rfl, rfl, rfl, rfl, hq⟩ hne htx
    · exact ⟨k, _, _, _, _, hrun, ⟨rfl, rfl, rfl, rfl, rfl, hq, rfl, rfl⟩, .timedOut [] m rfl ht⟩

/-- By recursion over what remains of the script. -/
theorem requestEnds_of_fair : ∀ (m : List ScriptStep) (s : State), s.script.drop s.seqPc = m →
    s.seqPc ≤ s.script.length → s.state.executes = true → s.env.noReset → s.panelFair →
    s.RequestEnds m
  | [], _, hd, hpc, he, hn, _ => requestEnds_nil he hn hpc hd
  | y :: m, s, hd, _, he, hn, hf => by
    have hx := State.currentStep_of_drop hd
    refine requestEnds_cons he hn hf hx fun {k u} hrun hu hnu htx => ?_
    have hpc : u.seqPc = s.seqPc + 1 := hu.seqPc
    refine (requestEnds_of_fair m u ?_ ?_ (hu.state ▸ he) hnu (hf.of_run hrun)).cons hrun hu htx
    · rw [hu.script, hpc, ← List.drop_drop, hd]
      rfl
    · rw [hu.script, hpc]
      exact (List.getElem?_eq_some_iff.1 hx).1

/-- Settles O60: the ends of the remaining script, read off case by case. -/
theorem fairPanelEndsEveryRequest : Obligations.FairPanelEndsEveryRequest := by
  intro s he hpc hn hf
  obtain ⟨n, t, c, x, es, hrun, ht, hes⟩ := requestEnds_of_fair _ s rfl hpc he hn hf
  refine ⟨n, t, c, hrun, ht.responses, ht.lastRsp, ht.seqPc, ht.bg, ht.faultCause, ht.reqs, ?_⟩
  have htrace := ht.trace
  cases hes with
  | completed => exact .inl ⟨rfl, ht.state, htrace⟩
  | failed done x rest hm ho =>
    rw [← List.append_assoc] at htrace
    exact .inr ⟨ht.state, done, .tx x, rest, hm, .inl ⟨rfl, ho, x, rfl, htrace⟩⟩
  | timedOut done rest hm hen =>
    rw [← List.append_assoc] at htrace
    exact .inr ⟨ht.state, done, .wait, rest, hm, .inr ⟨rfl, hen, rfl, htrace⟩⟩

end Sys2Proof.Machine
end

/-! INIT, WAKE and the driver-output-control payload (41_init.md). -/

section
namespace Sys2Proof.Machine

/-- A request that executes in INITIALIZING is taken in each of these states (40_sequencer.md R129). -/
theorem exec_initializing_of_takes {i : Instr} {s : State} (hs : hasScript i = true)
    (hi : execState i = .initializing) (ho : operandsPass i = true)
    (h : s.state = .uninit ∨ s.state = .idle ∨ s.state = .sleeping) :
    exec i s = .next (loadScript i s) := by
  obtain ⟨hr, hf⟩ := ready_of_takes h
  have ha : acceptedIn i s.state = true :=
    acceptedIn_iff.2 ⟨hs, by rw [if_pos hi]; exact acceptsInit_of_ready hr hf⟩
  exact exec_of_accepted ha ho

/-- 41_init.md R142: CUR_REQ apart, WAKE loads what INIT loads. -/
theorem loadScript_wake (s : State) :
    loadScript .wake s = { loadScript .init s with curReq := .wake } := rfl

/-- 41_init.md R141 in arithmetic: height - 1 fits in the 9 bits of a coordinate. -/
theorem driverOutputControl_eq {h : Nat} (hh : h ≤ 512) : driverOutputControl h =
    [BitVec.ofNat 8 ((h - 1) % 256), BitVec.ofNat 8 ((h - 1) / 256), 0x00] := by
  have hfit : (BitVec.ofNat 9 (h - 1)).toNat = h - 1 := by
    rw [BitVec.toNat_ofNat]
    exact Nat.mod_eq_of_lt (by omega)
  rw [driverOutputControl, le9, lo8_eq, hi1_eq, hfit]
  rfl

/-- Settles O13: INIT is taken and loads its script, which computes to the 25 steps of R140. -/
theorem initLoadsItsScript : Obligations.InitLoadsItsScript :=
  fun _ h => exec_initializing_of_takes rfl rfl rfl h

/-- Settles O14: both requests are taken, and `loadScript_wake` compares what they load. -/
theorem wakeLoadsTheInitScript : Obligations.WakeLoadsTheInitScript := by
  intro s h
  have hwake := exec_initializing_of_takes (i := .wake) rfl rfl rfl h
  have hinit := exec_initializing_of_takes (i := .init) rfl rfl rfl h
  rw [loadScript_wake] at hwake
  refine ⟨hwake, fun t ht => ?_⟩
  obtain rfl : loadScript .init s = t := Host.Outcome.next.inj (hinit.symm.trans ht)
  exact hwake

/-- Settles O56. -/
theorem driverOutputControlPayload : Obligations.DriverOutputControlPayload :=
  ⟨fun _ _ hh => driverOutputControl_eq hh, driverOutputControl_eq (by decide),
    driverOutputControl_eq (by decide)⟩

end Sys2Proof.Machine
end

/-! The window and counter requests (42_window.md): their payloads in arithmetic, their scripts, and
the window check. -/

section
namespace Sys2Proof.Machine

/-! ## Payloads (42_window.md R151 to R154) -/

theorem le9_eq (v : Coord) :
    le9 v = [BitVec.ofNat 8 (v.toNat % 256), BitVec.ofNat 8 (v.toNat / 256)] := by
  rw [le9, lo8_eq, hi1_eq]

theorem xWindow_eq (sx ex : Coord) :
    xWindow sx ex = [BitVec.ofNat 8 (sx.toNat / 8), BitVec.ofNat 8 (ex.toNat / 8)] := by
  rw [xWindow, xByte_eq, xByte_eq]

theorem yWindow_eq (sy ey : Coord) : yWindow sy ey =
    [BitVec.ofNat 8 (sy.toNat % 256), BitVec.ofNat 8 (sy.toNat / 256),
     BitVec.ofNat 8 (ey.toNat % 256), BitVec.ofNat 8 (ey.toNat / 256)] := by
  rw [yWindow, le9_eq, le9_eq]
  rfl

theorem xCounter_eq (x : Coord) : xCounter x = [BitVec.ofNat 8 (x.toNat / 8)] := by
  rw [xCounter, xByte_eq]

theorem yCounter_eq (y : Coord) :
    yCounter y = [BitVec.ofNat 8 (y.toNat % 256), BitVec.ofNat 8 (y.toNat / 256)] :=
  le9_eq y

theorem hi1_eq_zero_or_one (y : Coord) : hi1 y = 0x00#8 ∨ hi1 y = 0x01#8 := by
  have hle := hi1_toNat_le_one y
  rw [← BitVec.toNat_inj, ← BitVec.toNat_inj, BitVec.toNat_ofNat, BitVec.toNat_ofNat]
  omega

theorem toNat_div_eight_le (x : Coord) : x.toNat / 8 ≤ 63 := by
  have hlt := xByte_toNat_lt x
  rw [xByte_toNat] at hlt
  omega

/-- Settles O54: the rules' examples are special cases of the arithmetic. -/
theorem payloadFunctions : Obligations.PayloadFunctions :=
  ⟨fun x => ⟨toNat_div_eight_le x, xByte_toNat x⟩, hi1_eq_zero_or_one, xWindow_eq, xCounter_eq,
    yWindow_eq, yCounter_eq, xWindow_eq _ _, xWindow_eq _ _, xWindow_eq _ _, yWindow_eq _ _,
    yWindow_eq _ _, yWindow_eq _ _, xCounter_eq _, xCounter_eq _, xCounter_eq _, yCounter_eq _,
    yCounter_eq _, yCounter_eq _⟩

/-! ## Scripts (42_window.md R155 to R157) -/

theorem areaScript_eq (sx sy ex ey : Coord) : areaScript sx sy ex ey =
    [.wait,
     .tx (.cmd .ramXWindow),
     .tx (.data [BitVec.ofNat 8 (sx.toNat / 8), BitVec.ofNat 8 (ex.toNat / 8)]),
     .tx (.cmd .ramYWindow),
     .tx (.data [BitVec.ofNat 8 (sy.toNat % 256), BitVec.ofNat 8 (sy.toNat / 256),
       BitVec.ofNat 8 (ey.toNat % 256), BitVec.ofNat 8 (ey.toNat / 256)])] := by
  rw [areaScript, xWindow_eq, yWindow_eq]
  rfl

theorem counterScript_eq (x y : Coord) : counterScript x y =
    [.wait,
     .tx (.cmd .ramXCounter), .tx (.data [BitVec.ofNat 8 (x.toNat / 8)]),
     .tx (.cmd .ramYCounter),
     .tx (.data [BitVec.ofNat 8 (y.toNat % 256), BitVec.ofNat 8 (y.toNat / 256)])] := by
  rw [counterScript, xCounter_eq, yCounter_eq]
  rfl

/-- The panel's last pixel is (199, 199) (00_scope.md R6, R7). -/
theorem scriptOf_useFullFrame (bg : Color) : scriptOf .useFullFrame bg =
    scriptOf (.setRamArea 0 0 199 199) bg ++ scriptOf (.setRamCounter 0 0) bg := rfl

theorem fullFrameScript_eq : fullFrameScript =
    [.wait, .tx (.cmd .ramXWindow), .tx (.data [0x00, 0x18]),
     .tx (.cmd .ramYWindow), .tx (.data [0x00, 0x00, 0xC7, 0x00]),
     .wait, .tx (.cmd .ramXCounter), .tx (.data [0x00]),
     .tx (.cmd .ramYCounter), .tx (.data [0x00, 0x00])] := by
  rw [fullFrameScript, areaScript_eq, counterScript_eq]
  rfl

/-- Settles O24: `scriptOf_useFullFrame`, and the other two by definition. -/
theorem pseudoRequestsExpand : Obligations.PseudoRequestsExpand :=
  fun bg _ => ⟨rfl, scriptOf_useFullFrame bg, rfl⟩

/-! ## The requests (42_window.md R158 to R160) -/

/-- IDLE loads every script whose operands pass (40_sequencer.md R129). -/
theorem exec_of_idle {i : Instr} {s : State} (hs : hasScript i = true)
    (ho : operandsPass i = true) (h : s.state = .idle) : exec i s = .next (loadScript i s) :=
  exec_of_accepted (acceptedIn_idle hs h) ho

/-- Settles O16: the window passes, so the area fragment is loaded. -/
theorem setRamAreaLoadsItsScript : Obligations.SetRamAreaLoadsItsScript := by
  intro s sx sy ex ey h hx hy
  have hpass : operandsPass (.setRamArea sx sy ex ey) = true :=
    (windowOk_iff sx sy ex ey).2 ⟨hx, hy⟩
  rw [exec_of_idle rfl hpass h, ← areaScript_eq]
  rfl

/-- Settles O17: no check stands before the counter fragment. -/
theorem setRamCounterLoadsItsScript : Obligations.SetRamCounterLoadsItsScript := by
  intro s x y h
  rw [exec_of_idle rfl rfl h, ← counterScript_eq]
  rfl

/-- Settles O18: the two fragments compute to the ten steps. -/
theorem useFullFrameLoadsItsScript : Obligations.UseFullFrameLoadsItsScript := by
  intro s h
  refine ⟨scriptOf_useFullFrame s.bg, ?_⟩
  rw [exec_of_idle rfl rfl h, ← fullFrameScript_eq]
  rfl

/-- 42_window.md R158: in IDLE the window check decides SET_RAM_AREA. -/
theorem exec_setRamArea_of_idle {s : State} (sx sy ex ey : Coord) (h : s.state = .idle) :
    exec (.setRamArea sx sy ex ey) s =
      .next (ifOperands (windowOk sx sy ex ey) .window
        (loadScript (.setRamArea sx sy ex ey)) s) := by
  have hexec : exec (.setRamArea sx sy ex ey) s = execSetRamArea sx sy ex ey s := rfl
  obtain ⟨hr, hf⟩ := ready_of_takes (.inr (.inl h))
  rw [hexec, execSetRamArea, takeRequest_of_ready hr hf, ifAccepted, if_pos (acceptsWork_iff.2 h)]

theorem windowOk_eq_false_iff (sx sy ex ey : Coord) :
    windowOk sx sy ex ey = false ↔ ex.toNat ≤ sx.toNat ∨ ey.toNat ≤ sy.toNat := by
  rw [← Bool.not_eq_true, windowOk_iff]
  omega

/-- Settles O31: what remains in IDLE is the window check, whose failure raises ERR_WINDOW. -/
theorem badWindowFailsBeforeAnyStep : Obligations.BadWindowFailsBeforeAnyStep := by
  refine ⟨windowOk_iff, by decide, by decide, by decide, fun s sx sy ex ey h hbad => ?_⟩
  rw [exec_setRamArea_of_idle sx sy ex ey h, (windowOk_eq_false_iff sx sy ex ey).2 hbad]
  rfl

end Sys2Proof.Machine
end

/-! The frame requests (43_frame.md): the master-activation rule that every step keeps, the scripts
of the plane writes, the refresh and the clear, and the plane length check. -/

section
namespace Sys2Proof.Machine

/-! ## The master-activation rule (43_frame.md R175): one rule per way a step changes the trace -/

/-- A step that records nothing keeps the rule if a Cmd(NOP) that stood at SEQ_PC still stands
there. -/
theorem State.ActivationInv.of_trace_eq {s t : State} (h : s.ActivationInv)
    (htr : t.trace = s.trace)
    (hnop : s.state.executes = true → s.currentStep = some (cmd .nop) →
      t.state.executes = true ∧ t.currentStep = some (cmd .nop)) : t.ActivationInv where
  followed := htr ▸ h.followed
  pending e hlast ha := by
    obtain ⟨he, hx⟩ := h.pending e (htr ▸ hlast) ha
    exact hnop he hx

/-- A step that records an event keeps the rule if the event may follow an activation wherever one
awaits its NOP, and if an activation itself is recorded with Cmd(NOP) next. -/
theorem State.ActivationInv.of_trace_append {s t : State} {e : Event} (h : s.ActivationInv)
    (htr : t.trace = s.trace ++ [e])
    (hends : s.currentStep = some (cmd .nop) → endsActivation e = true)
    (hnop : isActivation e = true → t.state.executes = true ∧ t.currentStep = some (cmd .nop)) :
    t.ActivationInv where
  followed := by
    rw [htr]
    exact activationsFollowed_append s.trace e h.followed fun x hlast ha =>
      hends (h.pending x hlast ha).2
  pending x hlast ha := by
    obtain rfl : e = x := by simpa [htr] using hlast
    exact hnop ha

theorem isActivation_tx_iff {x : Tx} :
    isActivation (.tx x) = true ↔ x = .cmd .masterActivation := by
  simp [isActivation]

/-- 43_frame.md R174, R176: in an executing block the step after Cmd(MASTER_ACTIVATION) is
Cmd(NOP). -/
theorem State.Inv.nop_after_masterActivation {s : State} (h : s.Inv) (he : s.state.executes = true)
    (hx : s.currentStep = some (cmd .masterActivation)) :
    s.advance.currentStep = some (cmd .nop) := by
  have hfollows : nopFollows s.script := h.scriptOfReq he ▸ nopFollows_scriptOf s.curReq s.bg
  exact hfollows s.seqPc hx

theorem ScriptEffect.activationInv {s t : State} (ht : ScriptEffect s t) (hi : s.Inv)
    (h : s.ActivationInv) (he : s.state.executes = true) : t.ActivationInv := by
  cases ht with
  | rst tl th hx => exact h.of_trace_append rfl (by simp [hx, cmd]) nofun
  | waited hx => exact h.of_trace_append rfl (by simp [hx, cmd]) nofun
  | held e hx hq => exact h.of_trace_eq rfl fun he hnop => ⟨he, hnop⟩
  | timedOut hx => exact h.of_trace_append rfl (by simp [hx, cmd]) nofun
  | sent x hx =>
    refine h.of_trace_append rfl (fun hnop => ?_) fun ha => ⟨he, ?_⟩
    · obtain rfl : x = .cmd .nop := by simpa [hx, cmd] using hnop
      rfl
    · rw [isActivation_tx_iff.1 ha] at hx
      exact hi.nop_after_masterActivation he hx
  | failed x hx =>
    refine h.of_trace_append rfl (fun hnop => ?_) nofun
    obtain rfl : x = .cmd .nop := by simpa [hx, cmd] using hnop
    rfl
  | completed hend =>
    have hnone : s.currentStep = none := by simp [State.currentStep, hend]
    exact h.of_trace_eq rfl fun _ hnop => by simp [hnone] at hnop

/-- Block reset may follow an activation (70_reset_and_hazards.md R261). -/
theorem State.ActivationInv.blockReset {s : State} (h : s.ActivationInv) :
    (blockReset s).ActivationInv :=
  h.of_trace_append rfl (fun _ => rfl) nofun

theorem State.ActivationInv.withEnv {s : State} (h : s.ActivationInv) (e : Env) :
    (s.withEnv e).ActivationInv :=
  h.of_trace_eq rfl fun he hnop => ⟨he, hnop⟩

/-- Settles O48: a block reset may follow an activation, the scripts have the NOP at its place, and
a block that executes nothing records nothing and awaits no NOP. -/
theorem stepKeepsTheActivationRule : Obligations.StepKeepsTheActivationRule := by
  intro s t hi h hst
  obtain ⟨_, rfl⟩ | ⟨_, he, ht⟩ | ⟨hr, hrest, _⟩ | ⟨hr, hrest, _⟩ := step_cases hst
  · exact (h.withEnv _).blockReset
  · exact ht.activationInv (hi.withEnv _) (h.withEnv _) he
  all_goals
    exact h.of_trace_eq (step_trace_of_ready hr hrest hst) fun he _ => by simp [hrest] at he

/-! ## Fills (43_frame.md R170, R179) -/

/-- Settles O57: the counts compute from the panel's 200 by 200 pixels, and `cbWhite_ne_cbBlack`. -/
theorem clearFillSelection : Obligations.ClearFillSelection :=
  ⟨rfl, rfl, rfl, rfl, cbWhite_ne_cbBlack⟩

/-! ## The requests that load a script (43_frame.md R172 to R178) -/

/-- 43_frame.md R173, R171: the two planes of the colour frame go to the two RAMs in one script. -/
theorem updateColorFrameScript_eq (a c : List Byte) : updateColorFrameScript a c =
    [.wait] ++ fullFrameScript ++
      [.tx (.cmd .writeRam1), .tx (.data a), .tx (.cmd .writeRam2), .tx (.data c)] := by
  rw [updateColorFrameScript, List.append_assoc]
  rfl

theorem operandsPass_updateColorFrame_iff (a c : List Byte) :
    operandsPass (.updateColorFrame a c) = true ↔ a.length = 5000 ∧ c.length = 5000 := by
  rw [operandsPass, Bool.and_eq_true, planeOk_iff, planeOk_iff]

/-- Settles O19: planes of 5000 bytes pass, so IDLE loads the scripts. -/
theorem frameWritesLoadTheirScripts : Obligations.FrameWritesLoadTheirScripts := by
  intro s a c h ha hc
  have hframe : operandsPass (.updateFrame a) = true := (planeOk_iff a).2 ha
  have hcolor := (operandsPass_updateColorFrame_iff a c).2 ⟨ha, hc⟩
  refine ⟨exec_of_idle rfl hframe h, ?_⟩
  have hload := exec_of_idle rfl hcolor h
  rw [loadScript, scriptOf, updateColorFrameScript_eq] at hload
  exact hload

/-- Settles O20: IDLE loads the script, which computes to the five steps. -/
theorem displayFrameLoadsItsScript : Obligations.DisplayFrameLoadsItsScript :=
  fun _ h => exec_of_idle rfl rfl h

/-- Settles O21: a plane of 5000 bytes passes, so IDLE loads the two scripts in a row. -/
theorem updateAndDisplayFrameLoadsBothScripts :
    Obligations.UpdateAndDisplayFrameLoadsBothScripts := by
  intro s a h ha
  have hpass : operandsPass (.updateAndDisplayFrame a) = true := (planeOk_iff a).2 ha
  exact exec_of_idle rfl hpass h

/-- Settles O22: IDLE loads the script, whose fill is read off for each background. -/
theorem clearFrameLoadsTheFillsOfTheBackground :
    Obligations.ClearFrameLoadsTheFillsOfTheBackground := by
  intro s h
  rw [exec_of_idle rfl rfl h, loadScript]
  cases s.bg with
  | white => rfl
  | black => rfl
  | chromatic => rfl

/-! ## The plane length check (43_frame.md R177) -/

theorem planeOk_eq_false_iff (p : List Byte) : planeOk p = false ↔ p.length ≠ 5000 := by
  rw [← Bool.not_eq_true, planeOk_iff]

theorem planesOk_eq_false_iff (a c : List Byte) :
    (planeOk a && planeOk c) = false ↔ a.length ≠ 5000 ∨ c.length ≠ 5000 := by
  rw [Bool.and_eq_false_iff, planeOk_eq_false_iff, planeOk_eq_false_iff]

/-- 60_exceptions.md R223, R227: in IDLE a request whose operands do not pass raises its programming
error, whatever it would have done. -/
theorem takeRequest_of_badOperands {ok : Bool} {e : ProgError} {k : State → State} {s : State}
    (h : s.state = .idle) (hbad : ok = false) :
    takeRequest (ifAccepted FsmState.acceptsWork (ifOperands ok e k)) s =
      .next (s.raise (.prog e)) := by
  obtain ⟨hr, hf⟩ := ready_of_takes (.inr (.inl h))
  rw [takeRequest_of_ready hr hf, ifAccepted, if_pos (acceptsWork_iff.2 h), ifOperands,
    if_neg (by simp [hbad])]

/-- Settles O32: each of the three requests has its length check before all else it does in IDLE. -/
theorem badPlaneLengthFailsBeforeAnyStep : Obligations.BadPlaneLengthFailsBeforeAnyStep := by
  refine fun s a c h => ⟨fun ha => ?_, fun hac => ?_⟩
  · have hbad : planeOk a = false := (planeOk_eq_false_iff a).2 ha
    have hframe : exec (.updateFrame a) s = .next (s.raise (.prog .length)) :=
      takeRequest_of_badOperands h hbad
    have hboth : exec (.updateAndDisplayFrame a) s = .next (s.raise (.prog .length)) :=
      takeRequest_of_badOperands h hbad
    exact ⟨hframe, hboth.trans hframe.symm⟩
  · exact takeRequest_of_badOperands h ((planesOk_eq_false_iff a c).2 hac)

end Sys2Proof.Machine
end

/-! SLEEP and SET_BACKGROUND (44_power_config.md). -/

section
namespace Sys2Proof.Machine

/-- Settles O15: IDLE loads the script, which computes to the three steps. -/
theorem sleepLoadsItsScript : Obligations.SleepLoadsItsScript :=
  fun _ h => exec_of_idle rfl rfl h

/-- 44_power_config.md R203: the state check (40_sequencer.md R129) is the only one. -/
theorem exec_setBackground (col : Color) (s : State) : exec (.setBackground col) s =
    takeRequest (ifAccepted FsmState.acceptsInit fun s => { s with bg := col }.respond .ok) s := rfl

/-- Settles O26: each of the three states passes the check, so BG is written and OK answered. -/
theorem setBackgroundIsImmediate : Obligations.SetBackgroundIsImmediate := by
  intro s col h
  obtain ⟨hr, hf⟩ := ready_of_takes h
  have haccepts : s.state.acceptsInit = true := acceptsInit_of_ready hr hf
  rw [exec_setBackground, takeRequest_of_ready hr hf, ifAccepted, if_pos haccepts]
  rfl

end Sys2Proof.Machine
end

/-! The exceptions (60_exceptions.md): the answers that change LAST_RSP alone, what LAST_RSP holds, and
the ways out of SLEEPING. -/

section
namespace Sys2Proof.Machine

/-! ## Answers that change nothing else (60_exceptions.md R223 to R226) -/

/-- Settles O28. -/
theorem illegalIsAnsweredAndNothingElse : Obligations.IllegalIsAnsweredAndNothingElse := by
  intro s w h
  obtain ⟨hr, hf⟩ := ready_of_takes h
  exact exec_illegal_of_ready w hr hf

/-- Settles O29: check 1 of R223 comes before all others, and no request word is a panel command. -/
theorem faultAnswersFaultedToEveryWord : Obligations.FaultAnswersFaultedToEveryWord :=
  fun _ r hf => exec_of_fault (decodeRequest_isRequest r) hf

/-- 40_sequencer.md R121, R129: outside IDLE only INIT and WAKE are accepted. -/
theorem init_or_wake_of_accepted {i : Instr} {x : FsmState} (ha : acceptedIn i x = true)
    (hx : x ≠ .idle) : i = .init ∨ i = .wake := by
  obtain ⟨_, h⟩ := acceptedIn_iff.1 ha
  by_contra hi
  rw [execState_eq, if_neg hi] at h
  exact hx (acceptsWork_iff.1 h)

/-- 60_exceptions.md R223: for a request with a script, the state check (5) is the first after
check 1. -/
theorem exec_eq_takeRequest_ifAccepted {i : Instr} (hs : hasScript i = true) :
    ∃ k, ∀ s, exec i s = takeRequest (ifAccepted (acceptedIn i) k) s := by
  cases i with
  | init | wake | sleep | updateFrame _ | updateColorFrame _ _ | displayFrame
  | updateAndDisplayFrame _ | clearFrame | setRamArea _ _ _ _ | setRamCounter _ _
  | useFullFrame => exact ⟨_, fun _ => rfl⟩
  | _ => cases hs

/-- 60_exceptions.md R225. -/
theorem exec_of_not_accepted {i : Instr} {s : State} (hs : hasScript i = true)
    (hr : s.state.executes = false) (hf : s.state ≠ .fault) (ha : acceptedIn i s.state ≠ true) :
    exec i s = .next (s.respond (.err .state)) := by
  obtain ⟨k, hk⟩ := exec_eq_takeRequest_ifAccepted hs
  rw [hk, takeRequest_of_ready hr hf, ifAccepted, if_neg ha, State.raise_state]

/-- Settles O30: UNINIT and SLEEPING accept INIT and WAKE alone, so the state check fails. -/
theorem wrongStateIsRefused : Obligations.WrongStateIsRefused := by
  intro s i h hs hinit hwake
  obtain ⟨hr, hf⟩ := ready_of_takes (h.imp_right .inr)
  have hidle : s.state ≠ .idle := by obtain hx | hx := h <;> simp [hx]
  exact exec_of_not_accepted hs hr hf fun ha =>
    (init_or_wake_of_accepted ha hidle).elim hinit hwake

/-! ## LAST_RSP (60_exceptions.md R220, R221) -/

/-- From `s` to `t` one response was delivered and LAST_RSP holds it, or none was and LAST_RSP is
what it was. -/
def State.Delivers (s t : State) : Prop :=
  (∃ c, t.responses = s.responses ++ [c] ∧ t.lastRsp = c) ∨
  (t.responses = s.responses ∧ t.lastRsp = s.lastRsp)

theorem ScriptEffect.delivers {s t : State} (h : ScriptEffect s t) : s.Delivers t := by
  cases h with
  | rst | waited | held | sent => exact .inr ⟨rfl, rfl⟩
  | timedOut | failed | completed => exact .inl ⟨_, rfl, rfl⟩

theorem RequestEffect.delivers {i : Instr} {s t : State} (h : RequestEffect i s t) :
    s.Delivers t := by
  cases h with
  | notTaken | loaded => exact .inr ⟨rfl, rfl⟩
  | answered | faulted | background => exact .inl ⟨_, rfl, rfl⟩

/-- Block reset is left out: it delivers nothing and yet writes LAST_RSP (70_reset_and_hazards.md R260,
R261). -/
theorem step_delivers {s t : State} (hr : s.env.rstAsserted = false) (h : step s = .next t) :
    s.Delivers t := by
  obtain ⟨hr', _⟩ | ⟨_, _, ht⟩ | ⟨_, _, _, rfl⟩ | ⟨_, _, _, _, _, _, ht⟩ := step_cases h
  · rw [hr] at hr'; cases hr'
  · exact ht.delivers
  · exact .inr ⟨rfl, rfl⟩
  · exact ht.delivers

/-- Settles O41. -/
theorem lastRspIsTheResponseDelivered : Obligations.LastRspIsTheResponseDelivered := by
  intro s t h
  cases hr : s.env.rstAsserted with
  | true =>
    obtain rfl : blockReset (s.withEnv s.env.popRst) = t :=
      Host.Outcome.next.inj ((step_of_reset hr).symm.trans h)
    exact .inr ⟨rfl, nofun⟩
  | false => exact (step_delivers hr h).imp_right (And.imp_right fun hlast _ => hlast)

/-! ## The ways out of SLEEPING (60_exceptions.md R239) -/

/-- A request taken in SLEEPING leaves it by INIT or WAKE, or by being unsupported: the other
programming errors are found in IDLE alone. -/
theorem RequestEffect.exits_of_sleeping {i : Instr} {s t : State} (h : RequestEffect i s t)
    (hs : s.state = .sleeping) : t.state = .sleeping ∨
      (t.state = .initializing ∧ (i = .init ∨ i = .wake)) ∨
      (t.state = .fault ∧ (i = .updatePartialFrame ∨ i = .setLut)) := by
  cases h with
  | notTaken | answered | background => exact .inl hs
  | faulted p hr hf hp hi =>
    have hunsupported : p = .unsupported := by
      by_contra hne
      simpa [hs] using hi hne
    exact .inr (.inr ⟨rfl, hp.1 hunsupported⟩)
  | loaded ha =>
    have hi := init_or_wake_of_accepted ha (by simp [hs])
    exact .inr (.inl ⟨(execState_eq i).trans (if_pos hi), hi⟩)

/-- Nothing else leaves SLEEPING. -/
theorem step_exits_of_sleeping {s t : State} (hs : s.state = .sleeping) (h : step s = .next t) :
    t.state = .sleeping ∨
    (s.env.rstAsserted = true ∧ t.state = .uninit) ∨
    (∃ r, s.env.offered = some r ∧
      ((t.state = .initializing ∧ (decodeRequest r = .init ∨ decodeRequest r = .wake)) ∨
       (t.state = .fault ∧
        (decodeRequest r = .updatePartialFrame ∨ decodeRequest r = .setLut)))) := by
  obtain ⟨hr, rfl⟩ | ⟨_, he, _⟩ | ⟨_, _, _, rfl⟩ | ⟨_, _, r, rest, hq, _, ht⟩ := step_cases h
  · exact .inr (.inl ⟨hr, rfl⟩)
  · simp [hs, FsmState.executes] at he
  · exact .inl hs
  · have ho : s.env.offered = some r := by simp [hq]
    exact (ht.exits_of_sleeping hs).imp_right fun hleft => .inr ⟨r, ho, hleft⟩

theorem step_of_offered {s : State} {r : Request} (hr : s.env.rstAsserted = false)
    (he : s.state.executes = false) (ho : s.env.offered = some r) :
    step s = exec (decodeRequest r) (s.withEnv s.env.popRst.popReq) := by
  obtain ⟨rest, hq⟩ := List.head?_eq_some_iff.1 ho
  exact step_of_offer hr he hq

/-- Settles O44: the inversion of the step from SLEEPING, and one computed step for each way out. -/
theorem exitsFromSleeping : Obligations.ExitsFromSleeping := by
  refine ⟨fun s t => step_exits_of_sleeping, fun s hs =>
    ⟨fun hr => ⟨_, step_of_reset hr, rfl⟩, fun r hr ho => ?_⟩⟩
  have htakes : s.state = .uninit ∨ s.state = .idle ∨ s.state = .sleeping := .inr (.inr hs)
  have hstep := step_of_offered hr (ready_of_takes htakes).1 ho
  refine ⟨fun hi => ?_, fun hi => ?_⟩
  · obtain hi | hi := hi <;> rw [hi] at hstep
    all_goals exact ⟨_, hstep.trans (exec_initializing_of_takes rfl rfl rfl htakes), rfl, rfl⟩
  · obtain ⟨hpartial, hlut⟩ :=
      unsupportedRequestsAlwaysFail.1 (s.withEnv s.env.popRst.popReq) htakes
    obtain hi | hi := hi <;> rw [hi] at hstep
    · exact ⟨_, hstep.trans hpartial, rfl⟩
    · exact ⟨_, hstep.trans hlut, rfl⟩

end Sys2Proof.Machine
end

/-! Block reset and hazards (70_reset_and_hazards.md): what block reset does from every state, that
nothing else leaves FAULT, and the Wait before every address command. -/

section
namespace Sys2Proof.Machine

/-! ## Block reset and FAULT (70_reset_and_hazards.md R260, R261; 60_exceptions.md R227) -/

/-- In FAULT no script runs and every request is answered ERR_FAULTED, which writes neither STATE nor
FAULT_CAUSE. -/
theorem step_stays_in_fault {s t : State} (hr : s.env.rstAsserted = false) (hf : s.state = .fault)
    (h : step s = .next t) : t.state = .fault ∧ t.faultCause = s.faultCause := by
  obtain ⟨hr', _⟩ | ⟨_, he, _⟩ | ⟨_, _, _, rfl⟩ | ⟨_, _, r, _, _, hx, _⟩ := step_cases h
  · rw [hr] at hr'; cases hr'
  · exact absurd hf (ne_fault_of_executes he)
  · exact ⟨hf, rfl⟩
  · cases hx.symm.trans (exec_of_fault (decodeRequest_isRequest r) hf)
    exact ⟨hf, rfl⟩

/-- Settles O12. -/
theorem blockResetIsTheOnlyWayOutOfFault : Obligations.BlockResetIsTheOnlyWayOutOfFault :=
  ⟨fun _ hr => ⟨_, step_of_reset hr, rfl, rfl, rfl, rfl, rfl, rfl, rfl, rfl, rfl⟩,
    fun _ _ => step_stays_in_fault⟩

/-! ## The Wait before an address command (70_reset_and_hazards.md R266)

The rule is said of any list of steps, by what stands directly before each command, so that two
lists that have it have it joined. -/

/-- The steps that R266 asks for directly before a command, `bs` being the payload of the X command. -/
def leadIn (bs : List Byte) : PanelOp → List ScriptStep
  | .ramXWindow | .ramXCounter => [.wait]
  | .ramYWindow => [.wait, cmd .ramXWindow, data bs]
  | .ramYCounter => [.wait, cmd .ramXCounter, data bs]
  | _ => []

/-- An address command is one that asks for steps before it. -/
def ScriptStep.isAddress : ScriptStep → Bool
  | .tx (.cmd p) => !(leadIn [] p).isEmpty
  | _ => false

theorem leadIn_eq_nil {p : PanelOp} (h : (cmd p).isAddress = false) (bs : List Byte) :
    leadIn bs p = [] := by
  cases p with
  | ramXWindow | ramXCounter | ramYWindow | ramYCounter => cases h
  | _ => rfl

/-- Each command of the list has its lead-in directly before it. -/
def ledIn (l : List ScriptStep) : Prop :=
  ∀ (k : Nat) (p : PanelOp), l[k]? = some (cmd p) → ∃ bs, leadIn bs p <:+ l.take k

theorem ledIn_of_noAddress {l : List ScriptStep} (h : l.any ScriptStep.isAddress = false) :
    ledIn l := by
  intro k p hk
  have hp : (cmd p).isAddress = false := by
    simpa using List.any_eq_false.1 h _ (List.mem_of_getElem? hk)
  exact ⟨[], leadIn_eq_nil hp [] ▸ List.nil_suffix⟩

theorem ledIn.append {l m : List ScriptStep} (hl : ledIn l) (hm : ledIn m) : ledIn (l ++ m) := by
  intro k p hk
  obtain hlt | hge := Nat.lt_or_ge k l.length
  · rw [List.getElem?_append_left hlt] at hk
    rw [List.take_append_of_le_length hlt.le]
    exact hl k p hk
  · obtain ⟨i, rfl⟩ := Nat.exists_eq_add_of_le hge
    rw [List.getElem?_append_right hge, Nat.add_sub_cancel_left] at hk
    rw [List.take_length_add_append]
    exact (hm i p hk).imp fun _ hbs => hbs.trans (List.suffix_append l _)

theorem ledIn.append_noAddress {l m : List ScriptStep} (hl : ledIn l)
    (hm : m.any ScriptStep.isAddress = false) : ledIn (l ++ m) :=
  hl.append (ledIn_of_noAddress hm)

/-- 42_window.md R155, R156: the shape of the area and the counter fragment, whose Wait leads in both
commands. -/
theorem ledIn_fragment {px py : PanelOp} (xs ys : List Byte) (hx : leadIn xs px = [.wait])
    (hy : leadIn xs py = [.wait, cmd px, data xs]) :
    ledIn ([.wait] ++ cmdData px xs ++ cmdData py ys) := by
  intro k p hk
  match k with
  | 0 | 2 | 4 | _ + 5 => cases hk
  | 1 => cases hk; exact ⟨xs, by rw [hx]; exact List.suffix_rfl⟩
  | 3 => cases hk; exact ⟨xs, by rw [hy]; exact List.suffix_rfl⟩

theorem ledIn_areaScript (sx sy ex ey : Coord) : ledIn (areaScript sx sy ex ey) :=
  ledIn_fragment _ _ rfl rfl

theorem ledIn_counterScript (x y : Coord) : ledIn (counterScript x y) := ledIn_fragment _ _ rfl rfl

theorem ledIn_fullFrameScript : ledIn fullFrameScript :=
  (ledIn_areaScript _ _ _ _).append (ledIn_counterScript _ _)

theorem ledIn_around_fullFrameScript {l m : List ScriptStep}
    (hl : l.any ScriptStep.isAddress = false) (hm : m.any ScriptStep.isAddress = false) :
    ledIn (l ++ fullFrameScript ++ m) :=
  ((ledIn_of_noAddress hl).append ledIn_fullFrameScript).append_noAddress hm

theorem ledIn_updateFrameScript (a : List Byte) : ledIn (updateFrameScript a) :=
  ledIn_around_fullFrameScript rfl rfl

/-- The address commands of INIT's script are those of its full-frame fragment. -/
theorem ledIn_initScript : ledIn initScript :=
  ledIn.append_noAddress (ledIn.append_noAddress (ledIn.append_noAddress
    (ledIn_around_fullFrameScript rfl rfl) rfl) rfl) rfl

/-- Scripts address the RAM by the area and counter fragments alone. -/
theorem ledIn_scriptOf (r : Instr) (bg : Color) : ledIn (scriptOf r bg) := by
  cases r with
  | init | wake => exact ledIn_initScript
  | setRamArea sx sy ex ey => exact ledIn_areaScript sx sy ex ey
  | setRamCounter x y => exact ledIn_counterScript x y
  | useFullFrame => exact ledIn_fullFrameScript
  | updateFrame a => exact ledIn_updateFrameScript a
  | updateAndDisplayFrame a => exact (ledIn_updateFrameScript a).append_noAddress rfl
  | updateColorFrame a c =>
    rw [scriptOf, updateColorFrameScript_eq]
    exact ledIn_around_fullFrameScript rfl rfl
  | clearFrame => exact ledIn_around_fullFrameScript rfl rfl
  | _ => exact ledIn_of_noAddress rfl

/-- A lead-in, read at its positions in the list. -/
theorem ledIn.exists_index {l : List ScriptStep} (h : ledIn l) {k : Nat} {p : PanelOp}
    (hk : l[k]? = some (cmd p)) : ∃ j bs, k = j + (leadIn bs p).length ∧
      ∀ (i : Nat) (x : ScriptStep), (leadIn bs p)[i]? = some x → l[j + i]? = some x := by
  obtain ⟨bs, before, hbefore⟩ := h k p hk
  obtain ⟨hlt, _⟩ := List.getElem?_eq_some_iff.1 hk
  have hlen : before.length + (leadIn bs p).length = k := by
    rw [← List.length_append, hbefore, List.length_take_of_le hlt.le]
  refine ⟨before.length, bs, hlen.symm, fun i x hx => ?_⟩
  obtain ⟨hi, _⟩ := List.getElem?_eq_some_iff.1 hx
  calc l[before.length + i]?
      = (l.take k)[before.length + i]? := (List.getElem?_take_of_lt (by omega)).symm
    _ = (before ++ leadIn bs p)[before.length + i]? := by rw [hbefore]
    _ = (leadIn bs p)[i]? := by
        rw [List.getElem?_append_right (Nat.le_add_right ..), Nat.add_sub_cancel_left]
    _ = some x := hx

/-- Settles O25: the lead-ins of the four address commands. -/
theorem addressWritesFollowAWait : Obligations.AddressWritesFollowAWait := by
  intro r bg k
  have hled := ledIn_scriptOf r bg
  refine ⟨fun hx => ?_, fun hy => ?_, fun hy => ?_⟩
  · obtain hx | hx := hx
    all_goals
      obtain ⟨j, _, hj, hat⟩ := hled.exists_index hx
      exact ⟨j, hj, hat 0 _ rfl⟩
  all_goals
    obtain ⟨j, bs, hj, hat⟩ := hled.exists_index hy
    exact ⟨j, bs, hj, hat 0 _ rfl, hat 1 _ rfl, hat 2 _ rfl⟩

end Sys2Proof.Machine
end

/-! The words the spec writes out (95_test_vectors.md V-ENC, V-WIN): a word that is the encoding of
a request is a table row that decodes to it. -/

section
namespace Sys2Proof.Machine

/-- A 48-bit table word is read as a request without planes (log 12). -/
theorem decodeTableWord_request {w : Nat} (hw : w < 2 ^ 48) :
    decodeTableWord 48 w = some (decodeRequest ⟨BitVec.ofNat 48 w, [], []⟩) := by
  rw [decodeTableWord, decodeBits, wireOfBits, if_pos rfl, if_pos hw]
  rfl

/-- R99 assembles the word of a request, and R91 to R94 read the request back. -/
theorem decodeTableWord_of_encode {w : Nat} {i : Instr} (hw : w < 2 ^ 48)
    (hi : isRequest i = true) (hf : wellFormed i = true)
    (he : encode i = .request ⟨BitVec.ofNat 48 w, [], []⟩) : decodeTableWord 48 w = some i := by
  have hd : decode (encode i) = .ok i := decodeOfEncodeIsTheRequest i hi hf
  rw [he, decode, Except.ok.injEq] at hd
  rw [decodeTableWord_request hw, hd]

/-- Settles O1: each word is its request's encoding, but for the SET_LUT one, whose other bits are
ignored (R97). -/
theorem specWordsDecode : Obligations.SpecWordsDecode := by
  have hlut : decodeTableWord 48 0xF028140A05FD = some .setLut := by
    rw [decodeTableWord_request (by decide), decodeRequest_setLut (by decide)]
  refine ⟨?_, ?_, ?_, ?_, ?_, ?_, ?_, ?_, hlut, ?_, ?_⟩
  all_goals exact decodeTableWord_of_encode (by decide) rfl (by decide) (by decide)

end Sys2Proof.Machine
end

/-! The index table of the scripts (40_sequencer.md R130): steps and Waits of a concatenation add
up, so each row follows from the fragments its script is made of. -/

section
namespace Sys2Proof.Machine

/-- A row of the index table. -/
structure HasCounts (l : List ScriptStep) (steps waits : Nat) : Prop where
  length_eq : l.length = steps
  waitCount_eq : waitCount l = waits

theorem HasCounts.append {l m : List ScriptStep} {n k n' k' : Nat} (hl : HasCounts l n k)
    (hm : HasCounts m n' k') : HasCounts (l ++ m) (n + n') (k + k') where
  length_eq := by rw [List.length_append, hl.length_eq, hm.length_eq]
  waitCount_eq := by
    rw [← hl.waitCount_eq, ← hm.waitCount_eq]
    exact List.countP_append

theorem hasCounts_wait : HasCounts [.wait] 1 1 := ⟨rfl, rfl⟩

theorem hasCounts_cmdData (p : PanelOp) (bs : List Byte) : HasCounts (cmdData p bs) 2 0 := ⟨rfl, rfl⟩

theorem hasCounts_areaScript (sx sy ex ey : Coord) : HasCounts (areaScript sx sy ex ey) 5 1 :=
  (hasCounts_wait.append (hasCounts_cmdData _ _)).append (hasCounts_cmdData _ _)

theorem hasCounts_counterScript (x y : Coord) : HasCounts (counterScript x y) 5 1 :=
  (hasCounts_wait.append (hasCounts_cmdData _ _)).append (hasCounts_cmdData _ _)

theorem hasCounts_fullFrameScript : HasCounts fullFrameScript 10 2 :=
  (hasCounts_areaScript _ _ _ _).append (hasCounts_counterScript _ _)

/-- INIT's five Waits: one after each reset, two in the full-frame fragment, and the last step. -/
theorem hasCounts_initScript : HasCounts initScript 25 5 :=
  have hresets : HasCounts [.rst Config.tRstLow Config.tRstHigh, .wait, cmd .swReset, .wait] 4 2 :=
    ⟨rfl, rfl⟩
  have hdriver := (hresets.append (hasCounts_cmdData _ _)).append (hasCounts_cmdData _ _)
  have hframe := hdriver.append hasCounts_fullFrameScript
  have hsensor := ((hframe.append (hasCounts_cmdData _ _)).append (hasCounts_cmdData _ _)).append
    (hasCounts_cmdData _ _)
  hsensor.append hasCounts_wait

theorem hasCounts_updateFrameScript (a : List Byte) : HasCounts (updateFrameScript a) 13 3 :=
  (hasCounts_wait.append hasCounts_fullFrameScript).append (hasCounts_cmdData _ _)

theorem hasCounts_updateColorFrameScript (a c : List Byte) :
    HasCounts (updateColorFrameScript a c) 15 3 :=
  (hasCounts_updateFrameScript a).append (hasCounts_cmdData _ _)

theorem hasCounts_displayFrameScript : HasCounts displayFrameScript 5 1 :=
  (hasCounts_wait.append (hasCounts_cmdData _ _)).append ⟨rfl, rfl⟩

theorem hasCounts_updateAndDisplayFrameScript (a : List Byte) :
    HasCounts (updateAndDisplayFrameScript a) 18 4 :=
  (hasCounts_updateFrameScript a).append hasCounts_displayFrameScript

theorem hasCounts_clearFrameScript (bg : Color) : HasCounts (clearFrameScript bg) 15 3 :=
  have hfills : HasCounts
      [cmd .writeRam1, fill (clearFillA bg), cmd .writeRam2, fill clearFillC] 4 0 := ⟨rfl, rfl⟩
  (hasCounts_wait.append hasCounts_fullFrameScript).append hfills

theorem hasCounts_sleepScript : HasCounts sleepScript 3 1 :=
  hasCounts_wait.append (hasCounts_cmdData _ _)

/-- Settles O23: the rows of R130's table, WAKE's being INIT's (R142). -/
theorem scriptLengthsAndWaits : Obligations.ScriptLengthsAndWaits := by
  intro bg a c sx sy ex ey
  obtain ⟨initSteps, initWaits⟩ := hasCounts_initScript
  obtain ⟨areaSteps, areaWaits⟩ := hasCounts_areaScript sx sy ex ey
  obtain ⟨counterSteps, counterWaits⟩ := hasCounts_counterScript sx sy
  obtain ⟨fullSteps, fullWaits⟩ := hasCounts_fullFrameScript
  obtain ⟨updateSteps, updateWaits⟩ := hasCounts_updateFrameScript a
  obtain ⟨colorSteps, colorWaits⟩ := hasCounts_updateColorFrameScript a c
  obtain ⟨displaySteps, displayWaits⟩ := hasCounts_displayFrameScript
  obtain ⟨bothSteps, bothWaits⟩ := hasCounts_updateAndDisplayFrameScript a
  obtain ⟨clearSteps, clearWaits⟩ := hasCounts_clearFrameScript bg
  obtain ⟨sleepSteps, sleepWaits⟩ := hasCounts_sleepScript
  exact ⟨initSteps, initWaits, initSteps, initWaits, areaSteps, areaWaits, counterSteps,
    counterWaits, fullSteps, fullWaits, updateSteps, updateWaits, colorSteps, colorWaits,
    displaySteps, displayWaits, bothSteps, bothWaits, clearSteps, clearWaits, sleepSteps,
    sleepWaits⟩

end Sys2Proof.Machine
end
